-- ==== Sys2Proof/Word.lean ====
section
/-! DEFINITION. The word types of the operands, registers and bus operations (`00_scope.md` R10, `30_encoding.md` R101).
Signed operands (`s8`, `s16`, `s32`) are the same bit vectors, read with `BitVec.toInt`. -/

namespace Sys2Proof

abbrev Byte := BitVec 8
abbrev U16 := BitVec 16
abbrev U32 := BitVec 32

end Sys2Proof
end

