-- ==== Sys2Proof/Syntax.lean ====
section
/-! DEFINITION. The inputs of the block: one constructor of `Instr` per row of `spec/opcode_table.json`
(35 commands of `30_encoding.md` R104, 11 IRQ rows of `60_exceptions.md` R351, 3 timer rows of R107), and the
raw inputs of the ports that stand for them (`00_scope.md` R6). -/

namespace Sys2Proof

/-- A string of exactly eight bytes, in order (`bytes[8]` of R35 and R106). -/
structure Bytes8 where
  b0 : Byte
  b1 : Byte
  b2 : Byte
  b3 : Byte
  b4 : Byte
  b5 : Byte
  b6 : Byte
  b7 : Byte
deriving DecidableEq, Repr

/-- The generic configuration record `GCFG` (R106), as it stands in the packet: enumerated fields are still raw
bytes, since a value outside the enumeration is out of range and not malformed. -/
structure Gcfg where
  modem : Byte
  bitrate : U32
  fdev : U32
  bandwidth : U32
  preambleLen : U16
  syncWordLen : Byte
  syncWord : Bytes8
  lengthMode : Byte
  maxPayloadLen : U16
  crcType : Byte
  crcPoly : U16
  crcSeed : U16
  whiteMode : Byte
  whiteSeed : U16
deriving DecidableEq, Repr

/-- The operands of `SetRxConfig`, in packet order (R104, R152). -/
structure RxConfig where
  modem : Byte
  bandwidth : U32
  datarate : U32
  coderate : Byte
  bandwidthAfc : U32
  preambleLen : U16
  symbTimeout : U16
  fixLen : Bool
  payloadLen : Byte
  crcOn : Bool
  freqHopOn : Bool
  hopPeriod : Byte
  iqInverted : Bool
  rxContinuous : Bool
deriving DecidableEq, Repr

/-- The operands of `SetTxConfig`, in packet order (R104, R153). -/
structure TxConfig where
  modem : Byte
  power : Byte
  fdev : U32
  bandwidth : U32
  datarate : U32
  coderate : Byte
  preambleLen : U16
  fixLen : Bool
  crcOn : Bool
  freqHopOn : Bool
  hopPeriod : Byte
  iqInverted : Bool
  timeout : U32
deriving DecidableEq, Repr

/-- The operands of `TimeOnAir`, in packet order (R104, R190). -/
structure AirParams where
  modem : Byte
  bandwidth : U32
  datarate : U32
  coderate : Byte
  preambleLen : U16
  fixLen : Bool
  payloadLen : Byte
  crcOn : Bool
deriving DecidableEq, Repr

/-- What the pending-event queue holds: one event kind of R351, `CadDone` with its qualifier `detected` (R28). -/
inductive IrqEvent
  | txDone
  | rxDone
  | preambleDetected
  | syncWordValid
  | headerValid
  | headerError
  | crcError
  | cadDone (detected : Bool)
  | timeout
  | lrFhssHop
deriving DecidableEq, Repr

/-- One constructor per row of the opcode table, with the row's operands in packet order. A command constructor
means the command step; an `irq…` constructor the dispatch of that event (R353); `irqReserved` the reserved bits of
a presented vector (R352); an `expire…` constructor the expiry step of that timer line. -/
inductive Instr
  | init (cbMask : Byte)
  | getStatus
  | setModem (modem : Byte)
  | setChannel (freq : U32)
  | isChannelFree (freq : U32) (rxBandwidth : U32) (rssiThresh : U16) (maxCarrierSenseTime : U32)
  | random
  | setRxConfig (cfg : RxConfig)
  | setTxConfig (cfg : TxConfig)
  | checkRfFrequency (freq : U32)
  | timeOnAir (air : AirParams)
  | send (size : Byte) (data : List Byte)
  | sleep
  | standby
  | rx (timeout : U32)
  | rxBoosted (timeout : U32)
  | startCad
  | setTxContinuousWave (freq : U32) (power : Byte) (seconds : U16)
  | rssi (modem : Byte)
  | write (addr : U16) (data : Byte)
  | read (addr : U16)
  | writeRegisters (addr : U16) (n : Byte) (data : List Byte)
  | readRegisters (addr : U16) (n : Byte)
  | setMaxPayloadLength (modem : Byte) (max : Byte)
  | setPublicNetwork (enable : Bool)
  | getWakeupTime
  | irqProcess
  | setRxDutyCycle (rxTime : U32) (sleepTime : U32)
  | txPrbs
  | txCw (power : Byte)
  | setRxGenericConfig (cfg : Gcfg) (rxContinuous : Bool) (symbTimeout : U16)
  | setTxGenericConfig (cfg : Gcfg) (power : Byte) (timeout : U32)
  | transmitLongPacket (size : U16) (timeout : U32) (chunkCb : Bool)
  | receiveLongPacket (boostedMode : Bool) (timeout : U32) (chunkCb : Bool)
  | lrFhssSetCfg (n : Byte) (cfg : List Byte)
  | lrFhssGetTimeOnAirInMs (n : Byte) (cfg : List Byte)
  | irqTxDone
  | irqRxDone
  | irqPreambleDetected
  | irqSyncWordValid
  | irqHeaderValid
  | irqHeaderError
  | irqCrcError
  | irqCadDone (detected : Bool)
  | irqTimeout
  | irqLrFhssHop
  | irqReserved (bits : U16)
  | expireTxTimer
  | expireRxTimer
  | expireChunkTimer
deriving DecidableEq, Repr

/-- What is presented to the block for one step (R6): a packet at the command port, a vector at the IRQ port, the
turn of the dispatch step, or a code on the timer port. R107 and R108 give the codes of that port and no width; one byte is read
from the mask 0xFF of the opcode table's timer rows (DEDUCED, log 24). -/
inductive Input
  | command (packet : List Byte)
  | irq (vector : U16)
  | dispatch
  | timer (line : Byte)
deriving DecidableEq, Repr

end Sys2Proof
end

