-- ==== Sys2Proof/WellFormed.lean ====
section
/-! DEFINITION. Well-formed instructions: the terms a packet, vector or line code can stand for. Only what the packet
format itself excludes is checked here (`30_encoding.md` R100, R101, R105, R108); operand ranges are the commands' own
checks (R105) and out-of-range operands are well formed. -/

namespace Sys2Proof

/-- The bits of an IRQ vector that no event uses: 10 to 13 and 15 (R108, R352). -/
def reservedIrqBits : U16 := 0xBC00

/-- `cbMask` bit 7 is 0 (R105). -/
def cbMaskOk (m : Byte) : Bool := !m.msb

/-- A data tail has the length its length operand gives (R100). -/
def tailOk (n : Byte) (data : List Byte) : Bool := data.length == n.toNat

/-- A reserved-bit pattern sets at least one reserved bit and no other bit (R108). -/
def reservedOk (bits : U16) : Bool := bits != 0 && (bits &&& ~~~reservedIrqBits) == 0

/-- The term stands for some input of the block. -/
def Instr.wellFormed : Instr → Bool
  | .init m => cbMaskOk m
  | .send n d => tailOk n d
  | .writeRegisters _ n d => tailOk n d
  | .lrFhssSetCfg n d => tailOk n d
  | .lrFhssGetTimeOnAirInMs n d => tailOk n d
  | .irqReserved bits => reservedOk bits
  | .getStatus | .setModem _ | .setChannel _ | .isChannelFree _ _ _ _ | .random | .setRxConfig _ | .setTxConfig _
  | .checkRfFrequency _ | .timeOnAir _ | .sleep | .standby | .rx _ | .rxBoosted _ | .startCad
  | .setTxContinuousWave _ _ _ | .rssi _ | .write _ _ | .read _ | .readRegisters _ _ | .setMaxPayloadLength _ _
  | .setPublicNetwork _ | .getWakeupTime | .irqProcess | .setRxDutyCycle _ _ | .txPrbs | .txCw _
  | .setRxGenericConfig _ _ _ | .setTxGenericConfig _ _ _ | .transmitLongPacket _ _ _ | .receiveLongPacket _ _ _
  | .irqTxDone | .irqRxDone | .irqPreambleDetected | .irqSyncWordValid | .irqHeaderValid | .irqHeaderError
  | .irqCrcError | .irqCadDone _ | .irqTimeout | .irqLrFhssHop | .expireTxTimer | .expireRxTimer
  | .expireChunkTimer => true

end Sys2Proof
end

