-- ==== Sys2Proof/Decode.lean ====
section
/-! DEFINITION. Decoding of everything presented at a port, total and rejecting by name (`30_encoding.md` R100 to R108),
then the encoder written from the same tables, then the table-word entry the host asks. -/

namespace Sys2Proof

/-! ## Byte order: little-endian operands and responses (R77, R101) -/

/-- The two bytes of a u16, least significant first. -/
def u16Bytes (v : U16) : List Byte := [v.extractLsb' 0 8, v.extractLsb' 8 8]

/-- The four bytes of a u32, least significant first. -/
def u32Bytes (v : U32) : List Byte :=
  [v.extractLsb' 0 8, v.extractLsb' 8 8, v.extractLsb' 16 8, v.extractLsb' 24 8]

/-- The byte of a `bool`: 0 or 1. -/
def boolByte (b : Bool) : Byte := if b then 1 else 0

/-- `bytes[8]`, in order. -/
def bytes8 (s : Bytes8) : List Byte := [s.b0, s.b1, s.b2, s.b3, s.b4, s.b5, s.b6, s.b7]

/-! ## Decoding -/

/-- Why a presented packet, or line code, stands for no instruction (R100, R101, R105, R108). -/
inductive DecodeError
  /-- A packet of no bytes: it has no opcode (log 13). -/
  | emptyPacket
  /-- Opcode `0x00` or `0x24` to `0xFF` (R108). -/
  | reservedOpcode
  /-- The packet is shorter or longer than its opcode and length operand require (R100). -/
  | wrongLength
  /-- A `bool` operand that is neither 0 nor 1 (R101). -/
  | badBool
  /-- `Init` with `cbMask` bit 7 set (R105). -/
  | cbMaskBit7
  /-- A timer line code above 2 (R108). -/
  | badTimerLine
deriving DecidableEq, Repr

/-! A reader answers an operand's value and the bytes after it. -/

/-- A u8 or s8 operand. -/
def readU8 : List Byte → Except DecodeError (Byte × List Byte)
  | b :: r => .ok (b, r)
  | [] => .error .wrongLength

/-- A u16 or s16 operand, little-endian. -/
def readU16 : List Byte → Except DecodeError (U16 × List Byte)
  | b0 :: b1 :: r => .ok (b1 ++ b0, r)
  | _ => .error .wrongLength

/-- A u32 operand, little-endian. -/
def readU32 : List Byte → Except DecodeError (U32 × List Byte)
  | b0 :: b1 :: b2 :: b3 :: r => .ok (b3 ++ b2 ++ b1 ++ b0, r)
  | _ => .error .wrongLength

/-- A `bool` operand: one byte, 0 or 1. -/
def readBool : List Byte → Except DecodeError (Bool × List Byte)
  | b :: r => if b = 0 then .ok (false, r) else if b = 1 then .ok (true, r) else .error .badBool
  | [] => .error .wrongLength

/-- A `bytes[8]` operand. -/
def readBytes8 : List Byte → Except DecodeError (Bytes8 × List Byte)
  | b0 :: b1 :: b2 :: b3 :: b4 :: b5 :: b6 :: b7 :: r => .ok (⟨b0, b1, b2, b3, b4, b5, b6, b7⟩, r)
  | _ => .error .wrongLength

/-- A `bytes[n]` tail. -/
def readBytes (n : Byte) (bs : List Byte) : Except DecodeError (List Byte × List Byte) :=
  if bs.length < n.toNat then .error .wrongLength else .ok (bs.take n.toNat, bs.drop n.toNat)

/-- Every byte of a packet is used: a longer packet is malformed (R100). -/
def finish (i : Instr) : List Byte → Except DecodeError Instr
  | [] => .ok i
  | _ :: _ => .error .wrongLength

/-- The 35 bytes of a `GCFG` record (R106). -/
def readGcfg (bs : List Byte) : Except DecodeError (Gcfg × List Byte) := do
  let (modem, bs) ← readU8 bs
  let (bitrate, bs) ← readU32 bs
  let (fdev, bs) ← readU32 bs
  let (bandwidth, bs) ← readU32 bs
  let (preambleLen, bs) ← readU16 bs
  let (syncWordLen, bs) ← readU8 bs
  let (syncWord, bs) ← readBytes8 bs
  let (lengthMode, bs) ← readU8 bs
  let (maxPayloadLen, bs) ← readU16 bs
  let (crcType, bs) ← readU8 bs
  let (crcPoly, bs) ← readU16 bs
  let (crcSeed, bs) ← readU16 bs
  let (whiteMode, bs) ← readU8 bs
  let (whiteSeed, bs) ← readU16 bs
  .ok (⟨modem, bitrate, fdev, bandwidth, preambleLen, syncWordLen, syncWord, lengthMode, maxPayloadLen, crcType,
    crcPoly, crcSeed, whiteMode, whiteSeed⟩, bs)

/-- The operands of `SetRxConfig` (R104 row `0x07`). -/
def readRxConfig (bs : List Byte) : Except DecodeError (RxConfig × List Byte) := do
  let (modem, bs) ← readU8 bs
  let (bandwidth, bs) ← readU32 bs
  let (datarate, bs) ← readU32 bs
  let (coderate, bs) ← readU8 bs
  let (bandwidthAfc, bs) ← readU32 bs
  let (preambleLen, bs) ← readU16 bs
  let (symbTimeout, bs) ← readU16 bs
  let (fixLen, bs) ← readBool bs
  let (payloadLen, bs) ← readU8 bs
  let (crcOn, bs) ← readBool bs
  let (freqHopOn, bs) ← readBool bs
  let (hopPeriod, bs) ← readU8 bs
  let (iqInverted, bs) ← readBool bs
  let (rxContinuous, bs) ← readBool bs
  .ok (⟨modem, bandwidth, datarate, coderate, bandwidthAfc, preambleLen, symbTimeout, fixLen, payloadLen, crcOn,
    freqHopOn, hopPeriod, iqInverted, rxContinuous⟩, bs)

/-- The operands of `SetTxConfig` (R104 row `0x08`). -/
def readTxConfig (bs : List Byte) : Except DecodeError (TxConfig × List Byte) := do
  let (modem, bs) ← readU8 bs
  let (power, bs) ← readU8 bs
  let (fdev, bs) ← readU32 bs
  let (bandwidth, bs) ← readU32 bs
  let (datarate, bs) ← readU32 bs
  let (coderate, bs) ← readU8 bs
  let (preambleLen, bs) ← readU16 bs
  let (fixLen, bs) ← readBool bs
  let (crcOn, bs) ← readBool bs
  let (freqHopOn, bs) ← readBool bs
  let (hopPeriod, bs) ← readU8 bs
  let (iqInverted, bs) ← readBool bs
  let (timeout, bs) ← readU32 bs
  .ok (⟨modem, power, fdev, bandwidth, datarate, coderate, preambleLen, fixLen, crcOn, freqHopOn, hopPeriod,
    iqInverted, timeout⟩, bs)

/-- The operands of `TimeOnAir` (R104 row `0x0A`). -/
def readAirParams (bs : List Byte) : Except DecodeError (AirParams × List Byte) := do
  let (modem, bs) ← readU8 bs
  let (bandwidth, bs) ← readU32 bs
  let (datarate, bs) ← readU32 bs
  let (coderate, bs) ← readU8 bs
  let (preambleLen, bs) ← readU16 bs
  let (fixLen, bs) ← readBool bs
  let (payloadLen, bs) ← readU8 bs
  let (crcOn, bs) ← readBool bs
  .ok (⟨modem, bandwidth, datarate, coderate, preambleLen, fixLen, payloadLen, crcOn⟩, bs)

/-- The operands after the opcode byte `op` (R104, in the order of the opcode map). -/
def decodeOperands (op : Byte) (bs : List Byte) : Except DecodeError Instr :=
  match op.toNat with
  | 0x01 => do
    let (m, bs) ← readU8 bs
    if cbMaskOk m then finish (.init m) bs else .error .cbMaskBit7
  | 0x02 => finish .getStatus bs
  | 0x03 => do
    let (m, bs) ← readU8 bs
    finish (.setModem m) bs
  | 0x04 => do
    let (f, bs) ← readU32 bs
    finish (.setChannel f) bs
  | 0x05 => do
    let (f, bs) ← readU32 bs
    let (bw, bs) ← readU32 bs
    let (th, bs) ← readU16 bs
    let (t, bs) ← readU32 bs
    finish (.isChannelFree f bw th t) bs
  | 0x06 => finish .random bs
  | 0x07 => do
    let (c, bs) ← readRxConfig bs
    finish (.setRxConfig c) bs
  | 0x08 => do
    let (c, bs) ← readTxConfig bs
    finish (.setTxConfig c) bs
  | 0x09 => do
    let (f, bs) ← readU32 bs
    finish (.checkRfFrequency f) bs
  | 0x0A => do
    let (p, bs) ← readAirParams bs
    finish (.timeOnAir p) bs
  | 0x0B => do
    let (n, bs) ← readU8 bs
    let (d, bs) ← readBytes n bs
    finish (.send n d) bs
  | 0x0C => finish .sleep bs
  | 0x0D => finish .standby bs
  | 0x0E => do
    let (t, bs) ← readU32 bs
    finish (.rx t) bs
  | 0x0F => do
    let (t, bs) ← readU32 bs
    finish (.rxBoosted t) bs
  | 0x10 => finish .startCad bs
  | 0x11 => do
    let (f, bs) ← readU32 bs
    let (p, bs) ← readU8 bs
    let (sec, bs) ← readU16 bs
    finish (.setTxContinuousWave f p sec) bs
  | 0x12 => do
    let (m, bs) ← readU8 bs
    finish (.rssi m) bs
  | 0x13 => do
    let (a, bs) ← readU16 bs
    let (d, bs) ← readU8 bs
    finish (.write a d) bs
  | 0x14 => do
    let (a, bs) ← readU16 bs
    finish (.read a) bs
  | 0x15 => do
    let (a, bs) ← readU16 bs
    let (n, bs) ← readU8 bs
    let (d, bs) ← readBytes n bs
    finish (.writeRegisters a n d) bs
  | 0x16 => do
    let (a, bs) ← readU16 bs
    let (n, bs) ← readU8 bs
    finish (.readRegisters a n) bs
  | 0x17 => do
    let (m, bs) ← readU8 bs
    let (k, bs) ← readU8 bs
    finish (.setMaxPayloadLength m k) bs
  | 0x18 => do
    let (e, bs) ← readBool bs
    finish (.setPublicNetwork e) bs
  | 0x19 => finish .getWakeupTime bs
  | 0x1A => finish .irqProcess bs
  | 0x1B => do
    let (r, bs) ← readU32 bs
    let (sl, bs) ← readU32 bs
    finish (.setRxDutyCycle r sl) bs
  | 0x1C => finish .txPrbs bs
  | 0x1D => do
    let (p, bs) ← readU8 bs
    finish (.txCw p) bs
  | 0x1E => do
    let (g, bs) ← readGcfg bs
    let (c, bs) ← readBool bs
    let (t, bs) ← readU16 bs
    finish (.setRxGenericConfig g c t) bs
  | 0x1F => do
    let (g, bs) ← readGcfg bs
    let (p, bs) ← readU8 bs
    let (t, bs) ← readU32 bs
    finish (.setTxGenericConfig g p t) bs
  | 0x20 => do
    let (n, bs) ← readU16 bs
    let (t, bs) ← readU32 bs
    let (c, bs) ← readBool bs
    finish (.transmitLongPacket n t c) bs
  | 0x21 => do
    let (b, bs) ← readBool bs
    let (t, bs) ← readU32 bs
    let (c, bs) ← readBool bs
    finish (.receiveLongPacket b t c) bs
  | 0x22 => do
    let (n, bs) ← readU8 bs
    let (d, bs) ← readBytes n bs
    finish (.lrFhssSetCfg n d) bs
  | 0x23 => do
    let (n, bs) ← readU8 bs
    let (d, bs) ← readBytes n bs
    finish (.lrFhssGetTimeOnAirInMs n d) bs
  | _ => .error .reservedOpcode

/-- A packet at the command port (R100). -/
def decodeCommand : List Byte → Except DecodeError Instr
  | [] => .error .emptyPacket
  | op :: bs => decodeOperands op bs

/-- An event, if its bit is set. -/
def eventIf (bit : Bool) (e : IrqEvent) : List IrqEvent := if bit then [e] else []

/-- The events of a vector, in the priority order of R352 and R364 (a); `CadDone` takes `CadDetected` (bit 8) with it.
Bit positions are those of R351. -/
def vectorEvents (v : U16) : List IrqEvent :=
  eventIf (v.getLsbD 6) .crcError ++ eventIf (v.getLsbD 5) .headerError ++ eventIf (v.getLsbD 9) .timeout ++
  eventIf (v.getLsbD 0) .txDone ++ eventIf (v.getLsbD 1) .rxDone ++ eventIf (v.getLsbD 7) (.cadDone (v.getLsbD 8)) ++
  eventIf (v.getLsbD 3) .syncWordValid ++ eventIf (v.getLsbD 2) .preambleDetected ++
  eventIf (v.getLsbD 4) .headerValid ++ eventIf (v.getLsbD 14) .lrFhssHop

/-- The instruction that dispatches a queued event (R353). -/
def instrOfEvent : IrqEvent → Instr
  | .txDone => .irqTxDone
  | .rxDone => .irqRxDone
  | .preambleDetected => .irqPreambleDetected
  | .syncWordValid => .irqSyncWordValid
  | .headerValid => .irqHeaderValid
  | .headerError => .irqHeaderError
  | .crcError => .irqCrcError
  | .cadDone d => .irqCadDone d
  | .timeout => .irqTimeout
  | .lrFhssHop => .irqLrFhssHop

/-- The table rows a vector at the IRQ port matches: the reserved bits first (R352 raises `BadEvent` before it queues),
then its events. A vector may match several rows or none. -/
def decodeVector (v : U16) : List Instr :=
  if v &&& reservedIrqBits = 0 then (vectorEvents v).map instrOfEvent
  else .irqReserved (v &&& reservedIrqBits) :: (vectorEvents v).map instrOfEvent

/-- A code at the timer port (R107, R108). -/
def decodeTimer (line : Byte) : Except DecodeError Instr :=
  if line = 0 then .ok .expireTxTimer
  else if line = 1 then .ok .expireRxTimer
  else if line = 2 then .ok .expireChunkTimer
  else .error .badTimerLine

/-- The instructions an input stands for. The turn of the dispatch step stands for none by itself: what it runs is the
head of the pending queue. -/
def decodeInput : Input → Except DecodeError (List Instr)
  | .command p => (decodeCommand p).map fun i => [i]
  | .irq v => .ok (decodeVector v)
  | .dispatch => .ok []
  | .timer l => (decodeTimer l).map fun i => [i]

/-! ## Encoding -/

/-- A `GCFG` record (R106). -/
def gcfgBytes (g : Gcfg) : List Byte :=
  [g.modem] ++ u32Bytes g.bitrate ++ u32Bytes g.fdev ++ u32Bytes g.bandwidth ++ u16Bytes g.preambleLen ++
  [g.syncWordLen] ++ bytes8 g.syncWord ++ [g.lengthMode] ++ u16Bytes g.maxPayloadLen ++ [g.crcType] ++
  u16Bytes g.crcPoly ++ u16Bytes g.crcSeed ++ [g.whiteMode] ++ u16Bytes g.whiteSeed

/-- The operands of `SetRxConfig` in packet order. -/
def rxConfigBytes (c : RxConfig) : List Byte :=
  [c.modem] ++ u32Bytes c.bandwidth ++ u32Bytes c.datarate ++ [c.coderate] ++ u32Bytes c.bandwidthAfc ++
  u16Bytes c.preambleLen ++ u16Bytes c.symbTimeout ++ [boolByte c.fixLen, c.payloadLen, boolByte c.crcOn,
  boolByte c.freqHopOn, c.hopPeriod, boolByte c.iqInverted, boolByte c.rxContinuous]

/-- The operands of `SetTxConfig` in packet order. -/
def txConfigBytes (c : TxConfig) : List Byte :=
  [c.modem, c.power] ++ u32Bytes c.fdev ++ u32Bytes c.bandwidth ++ u32Bytes c.datarate ++ [c.coderate] ++
  u16Bytes c.preambleLen ++ [boolByte c.fixLen, boolByte c.crcOn, boolByte c.freqHopOn, c.hopPeriod,
  boolByte c.iqInverted] ++ u32Bytes c.timeout

/-- The operands of `TimeOnAir` in packet order. -/
def airParamsBytes (a : AirParams) : List Byte :=
  [a.modem] ++ u32Bytes a.bandwidth ++ u32Bytes a.datarate ++ [a.coderate] ++ u16Bytes a.preambleLen ++
  [boolByte a.fixLen, a.payloadLen, boolByte a.crcOn]

/-- The input that stands for an instruction: a packet (R100, R104), a vector (R351) or a line code (R107). -/
def encode : Instr → Input
  | .init m => .command [0x01, m]
  | .getStatus => .command [0x02]
  | .setModem m => .command [0x03, m]
  | .setChannel f => .command (0x04 :: u32Bytes f)
  | .isChannelFree f bw th t => .command (0x05 :: (u32Bytes f ++ u32Bytes bw ++ u16Bytes th ++ u32Bytes t))
  | .random => .command [0x06]
  | .setRxConfig c => .command (0x07 :: rxConfigBytes c)
  | .setTxConfig c => .command (0x08 :: txConfigBytes c)
  | .checkRfFrequency f => .command (0x09 :: u32Bytes f)
  | .timeOnAir a => .command (0x0A :: airParamsBytes a)
  | .send n d => .command (0x0B :: n :: d)
  | .sleep => .command [0x0C]
  | .standby => .command [0x0D]
  | .rx t => .command (0x0E :: u32Bytes t)
  | .rxBoosted t => .command (0x0F :: u32Bytes t)
  | .startCad => .command [0x10]
  | .setTxContinuousWave f p sec => .command (0x11 :: (u32Bytes f ++ [p] ++ u16Bytes sec))
  | .rssi m => .command [0x12, m]
  | .write a d => .command (0x13 :: (u16Bytes a ++ [d]))
  | .read a => .command (0x14 :: u16Bytes a)
  | .writeRegisters a n d => .command (0x15 :: (u16Bytes a ++ [n] ++ d))
  | .readRegisters a n => .command (0x16 :: (u16Bytes a ++ [n]))
  | .setMaxPayloadLength m k => .command [0x17, m, k]
  | .setPublicNetwork e => .command [0x18, boolByte e]
  | .getWakeupTime => .command [0x19]
  | .irqProcess => .command [0x1A]
  | .setRxDutyCycle r sl => .command (0x1B :: (u32Bytes r ++ u32Bytes sl))
  | .txPrbs => .command [0x1C]
  | .txCw p => .command [0x1D, p]
  | .setRxGenericConfig g c t => .command (0x1E :: (gcfgBytes g ++ [boolByte c] ++ u16Bytes t))
  | .setTxGenericConfig g p t => .command (0x1F :: (gcfgBytes g ++ [p] ++ u32Bytes t))
  | .transmitLongPacket n t c => .command (0x20 :: (u16Bytes n ++ u32Bytes t ++ [boolByte c]))
  | .receiveLongPacket b t c => .command (0x21 :: ([boolByte b] ++ u32Bytes t ++ [boolByte c]))
  | .lrFhssSetCfg n d => .command (0x22 :: n :: d)
  | .lrFhssGetTimeOnAirInMs n d => .command (0x23 :: n :: d)
  | .irqTxDone => .irq 0x0001
  | .irqRxDone => .irq 0x0002
  | .irqPreambleDetected => .irq 0x0004
  | .irqSyncWordValid => .irq 0x0008
  | .irqHeaderValid => .irq 0x0010
  | .irqHeaderError => .irq 0x0020
  | .irqCrcError => .irq 0x0040
  | .irqCadDone d => .irq (if d then 0x0180 else 0x0080)
  | .irqTimeout => .irq 0x0200
  | .irqLrFhssHop => .irq 0x4000
  | .irqReserved bits => .irq bits
  | .expireTxTimer => .timer 0
  | .expireRxTimer => .timer 1
  | .expireChunkTimer => .timer 2

/-! ## The opcode table's words

The table numbers a row's bits from the first byte and does not say which port a row belongs to (its three formats
share numbers: `0x01` is `Init`, `IRQ.TxDone` and `EXPIRE.RxTimer`). DESIGN CHOICE (log 11): a word of 16 bits is tried
as a vector first (the IRQ port is 16 bits wide, R107), then as a packet; any other word is tried as a packet, then as a
vector, then as a line code; it is read at the first port where it stands for exactly one instruction. -/

/-- How many bytes the packet of an opcode has (the table's column "length"), given the bytes that follow the opcode. -/
def packetLength : List Byte → Nat
  | [] => 1
  | op :: bs =>
    match op.toNat with
    | 0x01 | 0x03 | 0x12 | 0x18 | 0x1D => 2
    | 0x14 | 0x17 => 3
    | 0x13 | 0x16 => 4
    | 0x04 | 0x09 | 0x0E | 0x0F => 5
    | 0x21 => 7
    | 0x11 | 0x20 => 8
    | 0x1B => 9
    | 0x05 => 15
    | 0x0A => 16
    | 0x07 => 26
    | 0x08 => 27
    | 0x1E => 39
    | 0x1F => 41
    | 0x0B | 0x22 | 0x23 => 2 + (bs.getD 0 0).toNat
    | 0x15 => 4 + (bs.getD 2 0).toNat
    | _ => 1

/-- The bytes of a table word, the first byte holding bits 7 to 0, followed by operand bytes of zeros up to the packet's
length. A word of more bytes than that is kept whole (and is then no packet of that opcode, R100). -/
def tablePacket (nbits w : Nat) : List Byte :=
  let given := (List.range (nbits / 8)).map fun i => BitVec.ofNat 8 (w >>> (8 * i))
  given ++ List.replicate (packetLength given - given.length) 0

/-- A table word read at the command port. -/
def tableCommand (nbits w : Nat) : Option (Input × Instr) :=
  match decodeCommand (tablePacket nbits w) with
  | .ok i => some (.command (tablePacket nbits w), i)
  | .error _ => none

/-- A table word read at the IRQ port, if the vector stands for exactly one instruction. -/
def tableVector (nbits w : Nat) : Option (Input × Instr) :=
  match decodeVector (BitVec.ofNat 16 (w % 2 ^ nbits)) with
  | [i] => some (.irq (BitVec.ofNat 16 (w % 2 ^ nbits)), i)
  | _ => none

/-- A table word read at the timer port. -/
def tableTimer (nbits w : Nat) : Option (Input × Instr) :=
  match decodeTimer (BitVec.ofNat 8 (w % 2 ^ nbits)) with
  | .ok i => some (.timer (BitVec.ofNat 8 (w % 2 ^ nbits)), i)
  | .error _ => none

/-- The input a table word is, and the instruction it stands for. -/
def tableInput (nbits w : Nat) : Option (Input × Instr) :=
  if nbits = 16 then (tableVector nbits w).or (tableCommand nbits w)
  else ((tableCommand nbits w).or (tableVector nbits w)).or (tableTimer nbits w)

/-- The instruction the decoder reads from a table word. -/
def decodeTableWord (nbits w : Nat) : Option Instr := (tableInput nbits w).map Prod.snd

end Sys2Proof
end

