-- ==== Sys2Proof/Machine/Bus.lean ====
section
/-! DEFINITION. The outputs of the block (`00_scope.md` R7): Register Interface operations (`20_memory.md` R80 to R84),
Timer Service operations (`60_exceptions.md` R400), callbacks (R390) and responses (R102), with the records they carry
(`40_modem_config.md` R148 to R150). Plain data: the alphabet of the trace. -/

namespace Sys2Proof.Machine

/-- `MP.Modem` (R30), codes 0 to 5 in this order. -/
inductive ModemKind
  | fsk
  | lora
  | msk
  | bpsk
  | sigfoxTx
  | sigfoxRx
deriving DecidableEq, Repr

/-- `MP.CrcType` and `LP.CrcType` (R38, R44), codes 0 to 3 in this order. -/
inductive CrcType
  | off
  | ibm2
  | ccitt2
  | other
deriving DecidableEq, Repr

/-- The three one-shot timers (R29), line codes 0 to 2 in this order (R107). -/
inductive TimerId
  | tx
  | rx
  | chunk
deriving DecidableEq, Repr

/-- The direction operand of `RI.SetSwitch` (R81). -/
inductive Direction
  | tx
  | rx
deriving DecidableEq, Repr

/-- Modulation records (R148). -/
inductive ModRecord
  | fsk (msk : Bool) (bitrate : U32) (fdev : U32) (bwCode : Nat)
  | lora (sf : Byte) (bwHz : U32) (cr : Byte) (ldro : Bool)
  | bpsk (bitrate : U32)
deriving DecidableEq, Repr

/-- Packet records (R149, R150). -/
inductive PktRecord
  | lora (preambleLen : U16) (fixLen : Bool) (payloadLen : Byte) (crcOn : Bool) (invertIq : Bool) (symbTimeout : U16)
  | fsk (preambleLen : U16) (syncWordLen : Byte) (syncWord : Bytes8) (fixLen : Bool) (payloadLen : U16)
      (crcType : CrcType) (crcPoly : U16) (crcSeed : U16) (whiteOn : Bool) (whiteSeed : U16)
  | bpsk (payloadLen : U16)
deriving DecidableEq, Repr

/-- The Register Interface, every operation of R80 to R84, with its operands. -/
inductive RiOp
  | write (addr : U16) (data : Byte)
  | read (addr : U16)
  | writeRegisters (addr : U16) (buf : List Byte) (n : Byte)
  | readRegisters (addr : U16) (n : Byte)
  | writeBuffer (offset : Byte) (buf : List Byte) (n : Byte)
  | readBuffer (offset : Byte) (n : Byte)
  | setModulationParams (record : ModRecord)
  | setPacketParams (record : PktRecord)
  | setRfFrequency (hz : U32)
  | setRfTxPower (dbm : Byte)
  | setSwitch (selector : Byte) (txOrRx : Direction)
  | setDioIrqParams (mask : U16)
  | setRx (ticks : U32)
  | setRxBoosted (ticks : U32)
  | setTx (ticks : U32)
  | setStandby (mode : Nat)
  | setSleep (params : Nat)
  | setCad
  | getRssiInst
  | getPacketStatus
  | getOperatingMode
  | getRandom
  | getRxBufferStatus
  | setTxContinuousWave
  | pollRxBytes (n : Byte) (waitMs : U32)
deriving DecidableEq, Repr

/-- The Timer Service (R400). -/
inductive TmrOp
  | init (t : TimerId)
  | setValue (t : TimerId) (ms : U32)
  | start (t : TimerId)
  | stop (t : TimerId)
  | getCurrentTime
  | getElapsedTime (t0 : U32)
deriving DecidableEq, Repr

/-- The callbacks (R390): the seven of the `Init` set and the two chunk callbacks of the long-packet engine. -/
inductive Callback
  | txDone
  | txTimeout
  | rxDone (payload : List Byte) (size : U16) (rssi : U16) (snrOrCfo : Byte)
  | rxTimeout
  | rxError
  | fhssChangeChannel (index : Byte)
  | cadDone (detected : Bool)
  | getNextChunk (n : U16)
  | storeChunk (chunk : List Byte) (n : U16)
deriving DecidableEq, Repr

/-- One entry of the trace (R7). -/
inductive Output
  | ri (op : RiOp)
  | tmr (op : TmrOp)
  | cb (c : Callback)
  | response (packet : List Byte)
deriving DecidableEq, Repr

end Sys2Proof.Machine
end

