-- ==== Sys2Proof/Machine/State.lean ====
section
/-! DEFINITION. The state of the block, every register of `10_state.md` and `70_reset_and_hazards.md` R421, with the
model's own environment and trace; the reasons a step can stop; and the state after reset. -/

namespace Sys2Proof.Machine

/-- Why the machine stops. There is no constructor: the spec gives every input of the block an effect (R350: a raised
fault bit goes on, R369: no step diverts), so no step stops. Safe. -/
inductive Fault
deriving DecidableEq, Repr

/-- Why an instruction is not run. -/
inductive Refusal
  /-- Raised by an arm of `exec` for an instruction without a meaning; no arm is left that raises it. Safe. -/
  | notModelled (mnemonic : String)
deriving DecidableEq, Repr

/-- `RadioState` (R24), codes 0 to 3 in this order. -/
inductive RadioState
  | idle
  | rxRunning
  | txRunning
  | cad
deriving DecidableEq, Repr

/-- `MP.LengthMode` (R36), codes 0 to 2 in this order. -/
inductive LengthMode
  | fixed
  | var1
  | var2
deriving DecidableEq, Repr

/-- `MP.WhiteMode` (R39), codes 0 to 2 in this order. -/
inductive WhiteMode
  | off
  | hw
  | ibmSw
deriving DecidableEq, Repr

/-- `LP.LenW` (R44): the width of the length field, 0, 1 or 2 bytes. -/
inductive LenWidth
  | w0
  | w1
  | w2
deriving DecidableEq, Repr

/-- `LP.CrcW` (R44): the width of the CRC field, 0 or 2 bytes. -/
inductive CrcWidth
  | w0
  | w2
deriving DecidableEq, Repr

/-- `LP.Phase` (R46), codes 0 to 3 in this order. -/
inductive Phase
  | idle
  | headerPending
  | streaming
  | lastChunk
deriving DecidableEq, Repr

/-- `LP.Dir` (R46), codes 0 to 2 in this order. -/
inductive Dir
  | none
  | tx
  | rx
deriving DecidableEq, Repr

/-- The shadow of a one-shot timer (R29). -/
structure Timer where
  armed : Bool
  value : U32
deriving DecidableEq, Repr

/-- The ModemParameters file `MP.*` (R30 to R43, R54). -/
structure ModemParams where
  modem : ModemKind
  datarate : U32
  bw : U32
  bandwidthAfc : U32
  coderate : Byte
  fdev : U32
  preambleLen : U16
  syncWord : Bytes8
  syncWordLen : Byte
  fixLen : Bool
  lengthMode : LengthMode
  payloadLen : U16
  maxPayloadLen : U16
  crcOn : Bool
  crcType : CrcType
  crcPoly : U16
  crcSeed : U16
  whiteMode : WhiteMode
  whiteSeed : BitVec 9
  iqInverted : Bool
  ldro : Bool
  publicNetwork : Bool
  freqHopOn : Bool
  hopPeriod : Byte
  rxContinuous : Bool
  symbTimeout : U16
  rxTimeoutCfg : U32
  txTimeout : U32
  power : Byte
  antSel : Byte
  rxValid : Bool
  txValid : Bool
deriving DecidableEq, Repr

/-- The long-packet engine's registers `LP.*` (R44 to R50). -/
structure LongPacket where
  enable : Bool
  lenW : LenWidth
  crcW : CrcWidth
  crcType : CrcType
  crcPoly : U16
  crcSeed : U16
  whiteOn : Bool
  whiteSeed : BitVec 9
  maxLen : U16
  fixedLen : U16
  bitrate : U32
  whiteLfsr : BitVec 9
  crcLfsr : U16
  phase : Phase
  dir : Dir
  longMode : Bool
  total : U32
  remaining : U16
  payloadLen : U16
  bufOffset : Byte
  chunkCb : Bool
  rxPayloadOffset : U16
deriving DecidableEq, Repr

/-- What the environment has ready for the block (the model's own fields, log 2 to log 4): the inputs it presents next,
its answers to read-type operations, its polling histories for `IsChannelFree`, each oldest first, and the counter that
numbers the free values drawn when one of them is empty. -/
structure Environment where
  inputs : List Input
  answers : List U32
  senseRuns : List (List (U32 × U16))
  draws : Nat
deriving DecidableEq, Repr

/-- The state of the machine: the block's registers and buffers, then the model's environment and trace. -/
@[ext]
structure State where
  initialised : Bool
  radioState : RadioState
  cbMask : BitVec 7
  fault : BitVec 4
  irqMaskShadow : U16
  irqQ : List IrqEvent
  txTimer : Timer
  rxTimer : Timer
  chunkTimer : Timer
  mp : ModemParams
  lp : LongPacket
  rxStage : List Byte
  radioBuffer : List Byte
  env : Environment
  trace : List Output
deriving DecidableEq, Repr

/-- `MP.*` at reset (R421). Fields the table leaves unspecified hold the value named in log 1 (DESIGN CHOICE, unsafe):
zero, but `FixLen`, which follows the invariant of R36. -/
def ModemParams.reset : ModemParams where
  modem := .fsk
  datarate := 0
  bw := 0
  bandwidthAfc := 0
  coderate := 0
  fdev := 0
  preambleLen := 0
  syncWord := ⟨0, 0, 0, 0, 0, 0, 0, 0⟩
  syncWordLen := 0
  fixLen := true
  lengthMode := .fixed
  payloadLen := 255
  maxPayloadLen := 255
  crcOn := false
  crcType := .off
  crcPoly := 0
  crcSeed := 0
  whiteMode := .off
  whiteSeed := 0
  iqInverted := false
  ldro := false
  publicNetwork := false
  freqHopOn := false
  hopPeriod := 0
  rxContinuous := false
  symbTimeout := 0
  rxTimeoutCfg := 0
  txTimeout := 0
  power := 0
  antSel := 0
  rxValid := false
  txValid := false

/-- `LP.*` at reset (R421); unspecified fields as log 1 names them (DESIGN CHOICE, unsafe). -/
def LongPacket.reset : LongPacket where
  enable := false
  lenW := .w0
  crcW := .w0
  crcType := .off
  crcPoly := 0
  crcSeed := 0
  whiteOn := false
  whiteSeed := 0
  maxLen := 0
  fixedLen := 0
  bitrate := 0
  whiteLfsr := 0
  crcLfsr := 0
  phase := .idle
  dir := .none
  longMode := false
  total := 0
  remaining := 0
  payloadLen := 0
  bufOffset := 0
  chunkCb := false
  rxPayloadOffset := 0

/-- The machine right after power-on reset (R420, R421). The environment has nothing ready and nothing has been
output. -/
def State.reset : State where
  initialised := false
  radioState := .idle
  cbMask := 0
  fault := 0
  irqMaskShadow := 0
  irqQ := []
  txTimer := ⟨false, 0⟩
  rxTimer := ⟨false, 0⟩
  chunkTimer := ⟨false, 0⟩
  mp := .reset
  lp := .reset
  rxStage := List.replicate 255 0
  radioBuffer := List.replicate 256 0
  env := ⟨[], [], [], 0⟩
  trace := []

end Sys2Proof.Machine
end

