-- ==== Sys2Proof/Machine/Flags.lean ====
section
/-! DEFINITION. The block's flags: the bits of the sticky `Fault` register (R26, R350), the status codes and response
packets (R102, R103), the code of `RadioState` (R24) and the callback bits of `CbMask` (R25). -/

namespace Sys2Proof.Machine

/-- The causes of R350, in bit order. -/
inductive FaultBit
  | illegalCommand
  | notInit
  | irqOverrun
  | badEvent
deriving DecidableEq, Repr

/-- The mask of a fault's bit in the `Fault` register (R26). -/
def faultMask : FaultBit → BitVec 4
  | .illegalCommand => 0x1
  | .notInit => 0x2
  | .irqOverrun => 0x4
  | .badEvent => 0x8

/-- `STATUS_OK` = 0 as a response packet (R102). -/
def respOk : List Byte := u32Bytes 0

/-- `STATUS_ERROR` = -1 as a response packet (R102). -/
def respError : List Byte := u32Bytes (BitVec.ofInt 32 (-1))

/-- `STATUS_UNSUPPORTED_FEATURE` = -2 as a response packet (R102). -/
def respUnsupported : List Byte := u32Bytes (BitVec.ofInt 32 (-2))

/-- A `bool` result. -/
def respBool (b : Bool) : List Byte := [boolByte b]

/-- The code `GetStatus` answers (R24, R218). -/
def radioCode : RadioState → Byte
  | .idle => 0
  | .rxRunning => 1
  | .txRunning => 2
  | .cad => 3

/-- The bit of a callback in `CbMask` (R25); the two chunk callbacks have none (R390). -/
def cbBit : Callback → Option Nat
  | .txDone => some 0
  | .txTimeout => some 1
  | .rxDone _ _ _ _ => some 2
  | .rxTimeout => some 3
  | .rxError => some 4
  | .fhssChangeChannel _ => some 5
  | .cadDone _ => some 6
  | .getNextChunk _ => none
  | .storeChunk _ _ => none

end Sys2Proof.Machine
end

