-- ==== Sys2Proof/Config.lean ====
section
/-! DEFINITION. What an implementation fixes and the spec does not (the OPEN parameters of `00_scope.md` R9, U11),
and the free values: what the block does not control or the spec leaves unspecified. Every constant here is opaque:
nothing can be proved of its value, so a claim holds whatever it is. -/

namespace Sys2Proof.Config

/-! ## OPEN parameters (R9) -/

/-- `ADDR_IQ_POLARITY`, the vendor workaround register of R147. -/
opaque addrIqPolarity : U16
/-- `IQ_POL_BIT`, the bit of that register (R147). -/
opaque iqPolBit : Fin 8
/-- `ADDR_LORA_SYNCWORD`, the lower address of the register pair of R158. -/
opaque addrLoraSyncword : U16
/-- `LORA_SYNCWORD_PUBLIC` (R158). -/
opaque loraSyncwordPublic : U16
/-- `LORA_SYNCWORD_PRIVATE` (R158). -/
opaque loraSyncwordPrivate : U16
/-- `SYNCWORD_FSK`, three bytes (R152). -/
opaque syncwordFsk : Byte × Byte × Byte
/-- `SYNCWORD_SIGFOX_RX`, two bytes (R152). -/
opaque syncwordSigfoxRx : Byte × Byte
/-- `FSK_WHITE_SEED`, nine bits (R152). -/
opaque fskWhiteSeed : BitVec 9
/-- `FSK_CRC_POLY` (R152). -/
opaque fskCrcPoly : U16
/-- `FSK_CRC_SEED` (R152). -/
opaque fskCrcSeed : U16
/-- `FSK_BW_CODE(hz)`, a total function; the spec gives its result no width (DESIGN CHOICE: `Nat`, log 14; safe). -/
opaque fskBwCode : U32 → Nat
/-- `WAKEUP_TIME_MS` (R198). -/
opaque wakeupTimeMs : U32
/-- `FREQ_SUPPORTED(hz)`, a total predicate (R197; OPEN, its default is not assumed: log 22, safe). -/
opaque freqSupported : U32 → Bool
/-- `ADDR_RX_WR_PTR`, the register the length-field poll reads (R84, R290). -/
opaque addrRxWrPtr : U16
/-- `STANDBY_MODE`, the operand of `RI.SetStandby` (R9); no width given (DESIGN CHOICE: `Nat`, log 14; safe). -/
opaque standbyMode : Nat
/-- `SLEEP_PARAMS`, the operand of `RI.SetSleep` (R9); no width given (DESIGN CHOICE: `Nat`, log 14; safe). -/
opaque sleepParams : Nat

/-! ## Free values -/

/-- What the environment presents when `env.inputs` is empty: any input, or nothing (`none`: the block waits, R420).
The argument is the draw counter (log 2; safe). -/
opaque freeInput : Nat → Option Input
/-- An oracle answer (R7, U7) when `env.answers` is empty; the argument is the draw counter (log 3; safe). -/
opaque freeAnswer : Nat → U32
/-- The polling history of an `IsChannelFree` (R222) when `env.senseRuns` is empty: a finite list of pairs of a
`TMR.GetElapsedTime` answer and an `RI.GetRssiInst` answer (log 4). -/
opaque freeSense : Nat → List (U32 × U16)
/-- Byte `i` of `RadioBuffer` after the use numbered by the draw counter (R50, U8: unspecified between steps; log 7; safe). -/
opaque freeScratch : Nat → Nat → Byte
/-- The u8 field `payloadLen` of a `PktLora` record when `MP.PayloadLen` is above 255 (R149 gives no value; log 9; safe). -/
opaque loraPayloadLenOver : U16 → Byte
/-- `ceil(a / 0)`, which R10 leaves undefined (log 10; safe). -/
opaque ceilDivByZero : Nat → Nat

end Sys2Proof.Config
end

