-- ==== Sys2Proof/Machine/Operands.lean ====
section
/-! DEFINITION. Operands: the parameters of `00_scope.md` R9 that have a value, the policy functions of
`40_modem_config.md` R143 to R146, the enumerations of the operand bytes and the range checks of R142, R152, R155. -/

namespace Sys2Proof.Machine

/-! ## Parameters with a value (R9) -/

/-- `RADIO_BUF_SIZE`. -/
def radioBufSize : Nat := 255
/-- `CHUNK_LEN`. -/
def chunkLen : Nat := 128
/-- `IRQ_Q_DEPTH`. -/
def irqQDepth : Nat := 4
/-- `RX_CONTINUOUS_TICKS`. -/
def rxContinuousTicks : U32 := 0xFFFFFF
/-- `TX_NO_TIMEOUT_TICKS`. -/
def txNoTimeoutTicks : U32 := 0
/-- `SIGFOX_RX_WHITE_SEED`. -/
def sigfoxRxWhiteSeed : BitVec 9 := 0x1FF
/-- `CS_DATARATE`. -/
def csDatarate : U32 := 600
/-- `CS_PREAMBLE_LEN`. -/
def csPreambleLen : U16 := 3
/-- `MS_TO_TICKS`, with the default of R9 (U12; log 15, unsafe for a collaborator that supplies another). -/
def msToTicks (ms : U32) : U32 := ms <<< 6

/-- `LORA_BW_HZ` on the indices 0, 1 and 2; its users check the range first (R152, R153, R192). -/
def loraBwHz (idx : U32) : U32 := if idx = 0 then 125000 else if idx = 1 then 250000 else 500000

/-- `ceil(a / b)` (R10, R193); division by 0 is not defined there: a free value (log 10, safe). -/
def ceilDiv (a b : Nat) : Nat := if b = 0 then Config.ceilDivByZero a else (a + b - 1) / b

/-- `LP_CHUNK_MS(n, bitrate)` (R9). -/
def lpChunkMs (n : Nat) (bitrate : U32) : U32 := BitVec.ofNat 32 (ceilDiv (n * 8000) bitrate.toNat)

/-- `LP_HEADER_WAIT_MS(lenw, bitrate)` (R9). -/
def lpHeaderWaitMs (lenw : Nat) (bitrate : U32) : U32 := BitVec.ofNat 32 (ceilDiv (lenw * 8000) bitrate.toNat + 1)

/-! ## Policy functions -/

/-- `LoraPreamble` (R143). -/
def loraPreamble (sf : U32) (preambleLen : U16) : U16 :=
  if (sf = 5 ∨ sf = 6) ∧ preambleLen.toNat < 12 then 12 else preambleLen

/-- `Ldro` (R144). -/
def ldro (bwHz sf : U32) : Bool := (bwHz == 125000 && (sf == 11 || sf == 12)) || (bwHz == 250000 && sf == 12)

/-- `EffSymbTimeout` (R145). -/
def effSymbTimeout (rxContinuous : Bool) (symbTimeout : U16) : U16 := if rxContinuous then 0 else symbTimeout

/-- The receive timeout in milliseconds of FSK and SigfoxRx (R146). -/
def rxTimeoutMs (st : U16) (bitrate : U32) : U32 := BitVec.ofNat 32 (ceilDiv (st.toNat * 8000) bitrate.toNat)

/-- "None" in `MP.RxTimeoutCfg` (R42, R146). -/
def noRxTimeout : U32 := 0xFFFFFFFF

/-! ## Enumerated operands -/

/-- The modem kind an operand byte names (R30); 6 to 255 name none (R141). -/
def modemOf (b : Byte) : Option ModemKind :=
  match b.toNat with
  | 0 => some .fsk
  | 1 => some .lora
  | 2 => some .msk
  | 3 => some .bpsk
  | 4 => some .sigfoxTx
  | 5 => some .sigfoxRx
  | _ => none

/-- `lengthMode` of a `GCFG` record (R106). -/
def lengthModeOf (b : Byte) : Option LengthMode :=
  match b.toNat with
  | 0 => some .fixed
  | 1 => some .var1
  | 2 => some .var2
  | _ => none

/-- `crcType` of a `GCFG` record (R106). -/
def crcTypeOf (b : Byte) : Option CrcType :=
  match b.toNat with
  | 0 => some .off
  | 1 => some .ibm2
  | 2 => some .ccitt2
  | 3 => some .other
  | _ => none

/-- `whiteMode` of a `GCFG` record (R106). -/
def whiteModeOf (b : Byte) : Option WhiteMode :=
  match b.toNat with
  | 0 => some .off
  | 1 => some .hw
  | 2 => some .ibmSw
  | _ => none

/-! ## Widths of the software framing (R44) -/

/-- `LenW` in bytes. -/
def lenBytesOf : LenWidth → Nat
  | .w0 => 0
  | .w1 => 1
  | .w2 => 2

/-- `CrcW` in bytes. -/
def crcBytesOf : CrcWidth → Nat
  | .w0 => 0
  | .w2 => 2

/-- `LenW` of a length mode (R155, R271). -/
def lenWidthOf : LengthMode → LenWidth
  | .fixed => .w0
  | .var1 => .w1
  | .var2 => .w2

/-- `CrcW` of a CRC type (R155, R271). -/
def crcWidthOf : CrcType → CrcWidth
  | .off => .w0
  | .ibm2 => .w2
  | .ccitt2 => .w2
  | .other => .w2

/-! ## Range checks (R142) -/

/-- The LoRa ranges of R152, R153 and R192. -/
def loraInRange (datarate bandwidth : U32) (coderate : Byte) : Bool :=
  decide (5 ≤ datarate.toNat) && decide (datarate.toNat ≤ 12) && decide (bandwidth.toNat ≤ 2) &&
  decide (1 ≤ coderate.toNat) && decide (coderate.toNat ≤ 4)

/-- The enumerated fields of a `GCFG` record whose ranges hold, and whether they select RFW mode. -/
structure GenericModes where
  lengthMode : LengthMode
  crcType : CrcType
  whiteMode : WhiteMode
  rfw : Bool
deriving DecidableEq, Repr

/-- The length of the longest frame of a record: `LenW + maxPayloadLen + CrcW` (R155). -/
def frameMax (lengthMode : LengthMode) (crcType : CrcType) (maxPayloadLen : U16) : Nat :=
  lenBytesOf (lenWidthOf lengthMode) + maxPayloadLen.toNat + crcBytesOf (crcWidthOf crcType)

/-- The range checks of R155 on a record for `FSK` or `MSK`; `none` is a violation. -/
def genericModes (g : Gcfg) : Option GenericModes :=
  match lengthModeOf g.lengthMode, crcTypeOf g.crcType, whiteModeOf g.whiteMode with
  | some lm, some ct, some wm =>
    let rfw := wm == .ibmSw || lm == .var2
    let ok := g.bitrate != 0 && decide (g.syncWordLen.toNat ≤ 8) && decide (g.whiteSeed.toNat < 512) &&
      !(rfw && ct == .other) && !(!rfw && decide (255 < g.maxPayloadLen.toNat)) &&
      !(rfw && decide (65535 < frameMax lm ct g.maxPayloadLen)) &&
      !(rfw && lm == .var1 && decide (255 < g.maxPayloadLen.toNat))
    if ok then some ⟨lm, ct, wm, rfw⟩ else none
  | _, _, _ => none

end Sys2Proof.Machine
end

