-- ==== Sys2Proof/Machine/Ops.lean ====
section
/-! DEFINITION. The shared operations over the state: output, the environment's answers, the timers' shadows, raising a
fault (the block's one synchronous exception, R350; there is no return from it, R370), the response of a command, `Abort`,
`ArmIrq` and `LpTransferReset`; and what a Register Interface operation does to the transceiver's two byte spaces. -/

namespace Sys2Proof.Machine

/-! ## Output (R7) -/

/-- Append one entry to the trace. -/
def State.emit (s : State) (o : Output) : State := { s with trace := s.trace ++ [o] }

/-- Emit a Register Interface operation. -/
def State.ri (s : State) (op : RiOp) : State := s.emit (.ri op)

/-- Whether a callback is emitted: its `CbMask` bit is 1, or it is a chunk callback, which has no bit (R25, R390). -/
def cbEnabled (mask : BitVec 7) (c : Callback) : Bool :=
  match cbBit c with
  | some i => mask.getLsbD i
  | none => true

/-- Emit a callback, unless the application did not supply it (R25, R390). -/
def State.callback (s : State) (c : Callback) : State := if cbEnabled s.cbMask c then s.emit (.cb c) else s

/-- End a command step with a response packet (R102). -/
def State.respond (s : State) (packet : List Byte) : State := s.emit (.response packet)

/-! ## Field writes -/

def State.setRadio (s : State) (r : RadioState) : State := { s with radioState := r }
def State.setIrqQ (s : State) (q : List IrqEvent) : State := { s with irqQ := q }
def State.setIrqMask (s : State) (m : U16) : State := { s with irqMaskShadow := m }
def State.setMp (s : State) (m : ModemParams) : State := { s with mp := m }
def State.setLp (s : State) (l : LongPacket) : State := { s with lp := l }

/-- The shadow of a timer. -/
def State.timer (s : State) : TimerId → Timer
  | .tx => s.txTimer
  | .rx => s.rxTimer
  | .chunk => s.chunkTimer

/-- Write the shadow of a timer. -/
def State.setTimer (s : State) (t : TimerId) (v : Timer) : State :=
  match t with
  | .tx => { s with txTimer := v }
  | .rx => { s with rxTimer := v }
  | .chunk => { s with chunkTimer := v }

/-! ## Raising a fault (R350) -/

/-- `raise X`: set the sticky bit and nothing else. -/
def State.raiseFault (s : State) (b : FaultBit) : State := { s with fault := s.fault ||| faultMask b }

/-- The check every command but five begins with (R23): before `Init`, raise `NotInit` and answer `refusal`. -/
def State.ifInit (s : State) (refusal : List Byte) (body : State → State) : State :=
  if s.initialised then body s else (s.raiseFault .notInit).respond refusal

/-! ## Timer Service operations and their effect on the shadow (R400) -/

/-- `TMR.Init(h)`: disarms. -/
def State.tmrInit (s : State) (t : TimerId) : State :=
  (s.setTimer t ⟨false, (s.timer t).value⟩).emit (.tmr (.init t))

/-- `TMR.SetValue(h, ms)`: records the value and disarms. -/
def State.tmrSetValue (s : State) (t : TimerId) (ms : U32) : State :=
  (s.setTimer t ⟨false, ms⟩).emit (.tmr (.setValue t ms))

/-- `TMR.Start(h)`: arms. -/
def State.tmrStart (s : State) (t : TimerId) : State :=
  (s.setTimer t ⟨true, (s.timer t).value⟩).emit (.tmr (.start t))

/-- `TMR.Stop(h)`: disarms. -/
def State.tmrStop (s : State) (t : TimerId) : State :=
  (s.setTimer t ⟨false, (s.timer t).value⟩).emit (.tmr (.stop t))

/-- `TMR.SetValue` then `TMR.Start`: a one-shot arm. -/
def State.tmrArm (s : State) (t : TimerId) (ms : U32) : State := (s.tmrSetValue t ms).tmrStart t

/-- An expiry disarms its timer and emits nothing (R365 to R367, R401). -/
def State.tmrExpired (s : State) (t : TimerId) : State := s.setTimer t ⟨false, (s.timer t).value⟩

/-! ## Oracle answers (R7, U7)

Answer number `i` from now is the `i`-th the environment has ready, or a free value when it has none (log 3). -/

/-- Answer number `i`, counted from the next one. -/
def State.answer (s : State) (i : Nat) : U32 := s.env.answers.getD i (Config.freeAnswer (s.env.draws + i))

/-- Use up `k` answers. -/
def State.skipAnswers (s : State) (k : Nat) : State :=
  { s with env := { s.env with answers := s.env.answers.drop k, draws := s.env.draws + k } }

/-- An answer of one byte (u8 or s8). -/
def State.answerByte (s : State) (i : Nat) : Byte := (s.answer i).setWidth 8

/-- An answer of two bytes (u16 or s16). -/
def State.answerU16 (s : State) (i : Nat) : U16 := (s.answer i).setWidth 16

/-- An answer of `n` bytes. -/
def State.answerBytes (s : State) (n : Nat) : List Byte := (List.range n).map s.answerByte

/-! ## Read-type Register Interface operations: emit the operation, then take its answer -/

/-- `RI.ReadBuffer(offset, n)`; `n` = 0 emits nothing (R74). -/
def State.riReadBuffer (s : State) (offset : Byte) (n : Nat) : List Byte × State :=
  if n = 0 then ([], s)
  else (s.answerBytes n, (s.ri (.readBuffer offset (BitVec.ofNat 8 n))).skipAnswers n)

/-- `RI.WriteBuffer(offset, buf, len(buf))`; an empty buffer emits nothing (R74). -/
def State.riWriteBuffer (s : State) (offset : Byte) (buf : List Byte) : State :=
  if buf.isEmpty then s else s.ri (.writeBuffer offset buf (BitVec.ofNat 8 buf.length))

/-- `MP.AntSel <- RI.SetRfTxPower(power)`, with `MP.Power <- power` (R153, R156, R226). -/
def State.setPower (s : State) (power : Byte) : State :=
  ((s.ri (.setRfTxPower power)).skipAnswers 1).setMp { s.mp with power := power, antSel := s.answerByte 0 }

/-- The answer of `RI.GetPacketStatus()` (R83). The spec gives `packetType` no width and reads it nowhere (R355): one byte is the
model's choice (DESIGN CHOICE, log 14; safe). -/
structure PacketStatus where
  rssi : U16
  snrOrCfo : Byte
  packetType : Byte
deriving DecidableEq, Repr

/-- `RI.GetPacketStatus()`. -/
def State.riPacketStatus (s : State) : PacketStatus × State :=
  (⟨s.answerU16 0, s.answerByte 1, s.answerByte 2⟩, (s.ri .getPacketStatus).skipAnswers 3)

/-! ## RadioBuffer (R50, U8) -/

/-- A use of `RadioBuffer`: its contents are unspecified afterwards, so every byte is a free value (log 7, safe). -/
def State.useRadioBuffer (s : State) : State :=
  { s with
    radioBuffer := (List.range 256).map (Config.freeScratch s.env.draws)
    env := { s.env with draws := s.env.draws + 1 } }

/-! ## Shared micro-operations -/

/-- `LpTransferReset()` on the engine's registers (R275). -/
def LongPacket.transferReset (l : LongPacket) : LongPacket :=
  { l with
    phase := .idle, dir := .none, longMode := false, chunkCb := false, total := 0, remaining := 0, payloadLen := 0,
    bufOffset := 0, rxPayloadOffset := 0 }

/-- `LpTransferReset()` (R275). -/
def State.lpTransferReset (s : State) : State := s.setLp s.lp.transferReset

/-- The three `TMR.Stop` operations at the head of `Abort` and `Sleep` (R12, R219). -/
def State.stopTimers (s : State) : State := ((s.tmrStop .tx).tmrStop .rx).tmrStop .chunk

/-- `RI.SetStandby(STANDBY_MODE)`. -/
def State.standby (s : State) : State := s.ri (.setStandby Config.standbyMode)

/-- `Abort()` (R12). -/
def State.abort (s : State) : State := ((s.stopTimers.lpTransferReset.setIrqQ []).standby).setRadio .idle

/-- The abort a start command performs outside `Idle` (R210, C7). -/
def State.abortIfBusy (s : State) : State := if s.radioState = .idle then s else s.abort

/-- `ArmIrq(mask)` (R213). -/
def State.armIrq (s : State) (mask : U16) : State := ((s.setIrqQ []).ri (.setDioIrqParams mask)).setIrqMask mask

/-- `M_TX` = {TxDone, Timeout} (R213). -/
def maskTx : U16 := 0x0201
/-- `M_RX` = {RxDone, Timeout, CrcError, HeaderError} (R213). -/
def maskRx : U16 := 0x0262
/-- `M_RFW_RX` = {SyncWordValid, Timeout} (R213). -/
def maskRfwRx : U16 := 0x0208
/-- `M_CAD` = {CadDone, CadDetected} (R213). -/
def maskCad : U16 := 0x0180
/-- `M_NONE` (R213). -/
def maskNone : U16 := 0x0000

/-! ## The records built from the `MP` file (R148 to R150) -/

/-- The u8 field `payloadLen` of a `PktLora`: `MP.PayloadLen`, which R149 takes to be at most 255; above that a free
value (log 9, safe). -/
def loraPayloadLen (p : U16) : Byte := if p.toNat ≤ 255 then p.setWidth 8 else Config.loraPayloadLenOver p

/-- `BuildPktLora()` (R149, R150). -/
def State.buildPktLora (s : State) : PktRecord :=
  .lora s.mp.preambleLen s.mp.fixLen (loraPayloadLen s.mp.payloadLen) s.mp.crcOn s.mp.iqInverted s.mp.symbTimeout

/-- `BuildPktFsk()` (R150): in RFW mode the transceiver is told fixed length, no CRC, no whitening. -/
def State.buildPktFsk (s : State) : PktRecord :=
  .fsk s.mp.preambleLen s.mp.syncWordLen s.mp.syncWord (s.lp.enable || s.mp.fixLen) s.mp.payloadLen
    (if s.lp.enable then .off else s.mp.crcType) s.mp.crcPoly s.mp.crcSeed
    (!s.lp.enable && s.mp.whiteMode == .hw) (s.mp.whiteSeed.setWidth 16)

/-! ## What an operation does to the transceiver's byte spaces (R74, R75)

These spaces are outside the block (R53); the functions say which bytes an emitted operation writes and which addresses
it reads, in order. -/

/-- The register writes of an operation: byte `i` goes to `(addr + i) mod 2^16` (R75). -/
def regWrites : RiOp → List (U16 × Byte)
  | .write addr data => [(addr, data)]
  | .writeRegisters addr buf n => ((buf.take n.toNat).zipIdx).map fun p => (addr + BitVec.ofNat 16 p.2, p.1)
  | _ => []

/-- The addresses of the register reads of an operation (R75, R84). The poll of `RI.PollRxBytes` reads `ADDR_RX_WR_PTR` repeatedly and
R84 gives no count: it is listed once, for the one abstract operation, whatever the number of its reads (DESIGN CHOICE, log 26;
unsafe for a claim that counts them). -/
def regReads : RiOp → List U16
  | .read addr => [addr]
  | .readRegisters addr n => (List.range n.toNat).map fun i => addr + BitVec.ofNat 16 i
  | .pollRxBytes _ _ => [Config.addrRxWrPtr]
  | _ => []

/-- The ring writes of an operation: byte `i` goes to `(offset + i) mod 256` (R74). -/
def ringWrites : RiOp → List (Byte × Byte)
  | .writeBuffer offset buf n => ((buf.take n.toNat).zipIdx).map fun p => (offset + BitVec.ofNat 8 p.2, p.1)
  | _ => []

/-- The ring reads of an operation (R74). -/
def ringReads : RiOp → List Byte
  | .readBuffer offset n => (List.range n.toNat).map fun i => offset + BitVec.ofNat 8 i
  | _ => []

end Sys2Proof.Machine
end

