-- ==== Sys2Proof/Machine/Stream.lean ====
section
/-! DEFINITION. The two streaming units of the long-packet engine (`43_long_packet.md` R273, R274), seeding (R276), the
frame (R277, R279), and the Sigfox BPSK differential encoder (`44_bpsk_encoder.md` R340). -/

namespace Sys2Proof.Machine

/-! ## Whitening (R273) -/

/-- One shift: the register moves right and bit 5 XOR bit 0 enters at bit 8. -/
def whiteShift (r : BitVec 9) : BitVec 9 :=
  ((BitVec.ofBool (r.getLsbD 5 ^^ r.getLsbD 0)).setWidth 9 <<< 8) ||| (r >>> 1)

/-- The eight shifts after each byte. -/
def whiteAdvance (r : BitVec 9) : BitVec 9 := Nat.iterate whiteShift 8 r

/-- The bytes whitened from register `r`, and the register after them. -/
def whiteBytes : BitVec 9 → List Byte → List Byte × BitVec 9
  | r, [] => ([], r)
  | r, b :: bs =>
    let rest := whiteBytes (whiteAdvance r) bs
    ((b ^^^ r.setWidth 8) :: rest.1, rest.2)

/-- `WhiteRun(buf, n)` on the engine's registers: identity while `LP.WhiteOn` = 0. -/
def LongPacket.whiteRun (l : LongPacket) (buf : List Byte) : List Byte × LongPacket :=
  if l.whiteOn then ((whiteBytes l.whiteLfsr buf).1, { l with whiteLfsr := (whiteBytes l.whiteLfsr buf).2 })
  else (buf, l)

/-! ## CRC (R274) -/

/-- One bit into the CRC register. -/
def crcBit (poly r : U16) (bit : Bool) : U16 :=
  if (r.getLsbD 15 ^^ bit) then (r <<< 1) ^^^ poly else r <<< 1

/-- One byte, bit 7 first. -/
def crcByte (poly r : U16) (b : Byte) : U16 := [7, 6, 5, 4, 3, 2, 1, 0].foldl (fun r k => crcBit poly r (b.getLsbD k)) r

/-- A run of bytes. -/
def crcBytes (poly r : U16) (bs : List Byte) : U16 := bs.foldl (crcByte poly) r

/-- `CrcRun(buf, n)` on the engine's registers: nothing while `LP.CrcW` = 0. -/
def LongPacket.crcRun (l : LongPacket) (buf : List Byte) : LongPacket :=
  if l.crcW = .w0 then l else { l with crcLfsr := crcBytes l.crcPoly l.crcLfsr buf }

/-- `CrcFinal()`: inverted for `Ccitt2`, direct otherwise. -/
def LongPacket.crcFinal (l : LongPacket) : U16 := if l.crcType = .ccitt2 then ~~~l.crcLfsr else l.crcLfsr

/-! ## Frames (R276, R277, R279) -/

/-- `LpSeed()` (R276). -/
def LongPacket.seed (l : LongPacket) : LongPacket := { l with whiteLfsr := l.whiteSeed, crcLfsr := l.crcSeed }

/-- A 16-bit value, most significant byte first (R76). -/
def beBytes (v : U16) : List Byte := [v.extractLsb' 8 8, v.extractLsb' 0 8]

/-- `LenBytes(L)` in `LP.LenW` bytes (R277). -/
def lenBytes (w : LenWidth) (len : U16) : List Byte :=
  match w with
  | .w0 => []
  | .w1 => [len.setWidth 8]
  | .w2 => beBytes len

/-- The CRC trailer: empty while `LP.CrcW` = 0 (R277). -/
def LongPacket.trailer (l : LongPacket) : List Byte := if l.crcW = .w2 then beBytes l.crcFinal else []

/-- `LpFrameWhole(data, size)` (R279): the frame and the engine's registers after it. -/
def LongPacket.frameWhole (l : LongPacket) (data : List Byte) (size : U16) : List Byte × LongPacket :=
  let hdrPayload := lenBytes l.lenW size ++ data
  let l1 := l.seed.crcRun hdrPayload
  let plain := hdrPayload ++ l1.trailer
  let white := l1.whiteRun plain
  (white.1,
    { white.2 with
      payloadLen := size, total := BitVec.ofNat 32 plain.length, remaining := 0,
      bufOffset := BitVec.ofNat 8 plain.length })

/-! ## BPSK differential encoder (R340) -/

/-- One complemented byte `c` through the integrator `o`, bit 7 first: the output byte holds the integrator before each
bit, and the integrator goes on after the byte. -/
def bpskByte (o : Bool) (c : Byte) : Byte × Bool :=
  [7, 6, 5, 4, 3, 2, 1, 0].foldl
    (fun (acc : Byte × Bool) k => (if acc.2 then acc.1 ||| (1#8 <<< k) else acc.1, acc.2 ^^ c.getLsbD k)) (0, o)

/-- The trailer byte of the final integrator state: `s`, `s`, not `s` in bits 7, 6, 5. -/
def bpskTrailer (s : Bool) : Byte := if s then 0xC0 else 0x20

/-- The encoder from integrator state `o`. -/
def bpskFrom : Bool → List Byte → List Byte
  | o, [] => [bpskTrailer o]
  | o, b :: bs => (bpskByte o (~~~b)).1 :: bpskFrom (bpskByte o (~~~b)).2 bs

/-- `BpskEncode(in, n)`: the integrator starts at 0. -/
def bpskEncode (data : List Byte) : List Byte := bpskFrom false data

end Sys2Proof.Machine
end

