-- ==== Sys2Proof/Machine/LongPacket.lean ====
section
/-! DEFINITION. The long-packet chunked transfer engine (`43_long_packet.md` R279 to R296): the two commands, the chunk
rules of the transmit and receive paths, and the header procedure. -/

namespace Sys2Proof.Machine

/-! ## Transmit -/

/-- `d <- CB.GetNextChunk(n)`; with `n` = 0 no callback is made (R281). Emitted whatever `LP.ChunkCb` holds (log 16). -/
def State.getNextChunk (s : State) (n : Nat) : List Byte × State :=
  if n = 0 then ([], s)
  else (s.answerBytes n, (s.emit (.cb (.getNextChunk (BitVec.ofNat 16 n)))).skipAnswers n)

/-- The bytes of one transmit chunk of payload `d`, and the engine's registers after them (R281): the CRC runs over the
plain bytes, the trailer follows the last payload byte, the whole is whitened. -/
def LongPacket.txChunk (l : LongPacket) (first : Bool) (d : List Byte) : List Byte × LongPacket :=
  let body := (if first then lenBytes l.lenW l.payloadLen else []) ++ d
  let l1 : LongPacket := { l.crcRun body with remaining := l.remaining - BitVec.ofNat 16 d.length }
  l1.whiteRun (if l1.remaining = 0 then body ++ l1.trailer else body)

/-- `LpTxChunk(first, n)` (R281). That the write lands before the transceiver needs those ring bytes is assumed of the transceiver
(R86, R436; log 23). -/
def State.lpTxChunk (s : State) (first : Bool) (n : Nat) : State :=
  let d := s.getNextChunk n
  let c := s.lp.txChunk first d.1
  let l : LongPacket := { c.2 with bufOffset := c.2.bufOffset + BitVec.ofNat 8 c.1.length }
  let s := (d.2.useRadioBuffer.riWriteBuffer c.2.bufOffset c.1)
  if l.remaining = 0 then s.setLp { l with phase := .lastChunk }
  else (s.setLp { l with phase := .streaming }).tmrArm .chunk (lpChunkMs c.1.length l.bitrate)

/-- The payload bytes of the first write (R280). -/
def firstChunkLen (l : LongPacket) (size : U16) : Nat :=
  if l.total.toNat ≤ radioBufSize then size.toNat else radioBufSize - lenBytesOf l.lenW - crcBytesOf l.crcW

/-- The registers of an accepted `TransmitLongPacket` before its first chunk (R280). -/
def LongPacket.txStart (l : LongPacket) (size : U16) : LongPacket :=
  { l.seed with
    dir := .tx
    longMode := true
    chunkCb := true
    payloadLen := size
    remaining := size
    bufOffset := 0
    total := BitVec.ofNat 32 (lenBytesOf l.lenW + size.toNat + crcBytesOf l.crcW) }

/-- What an accepted `TransmitLongPacket` does (R280). -/
def State.transmitLong (s : State) (size : U16) (timeout : U32) : State :=
  let s := s.abortIfBusy
  let s := (s.setLp (s.lp.txStart size)).armIrq maskTx
  let s := s.ri (.setSwitch s.mp.antSel .tx)
  let s := s.setMp { s.mp with payloadLen := s.lp.total.setWidth 16 }
  let s := s.ri (.setPacketParams s.buildPktFsk)
  let s := s.lpTxChunk true (firstChunkLen s.lp size)
  ((s.tmrArm .tx timeout).ri (.setTx txNoTimeoutTicks)).setRadio .txRunning

/-- The checks of `TransmitLongPacket` after `Initialised` (R280). -/
def State.transmitLongAllowed (s : State) (size : U16) (chunkCb : Bool) : Bool :=
  s.mp.txValid && s.lp.enable && chunkCb && decide (size.toNat ≤ s.lp.maxLen.toNat) &&
  !(s.lp.lenW == .w1 && decide (255 < size.toNat)) && !(s.lp.lenW == .w0 && size != s.lp.fixedLen)

/-- `TransmitLongPacket(size, timeout, chunkCb)` (R280). -/
def execTransmitLongPacket (size : U16) (timeout : U32) (chunkCb : Bool) (s : State) :
    Host.Outcome State Fault Refusal :=
  .next (s.ifInit respError fun s =>
    if s.transmitLongAllowed size chunkCb then (s.transmitLong size timeout).respond respOk else s.respond respError)

/-- The transmit chunk rule of a `ChunkTimer` expiry (R282). -/
def State.txChunkExpiry (s : State) : State := s.lpTxChunk false (min chunkLen s.lp.remaining.toNat)

/-! ## Receive -/

/-- `LpReceiveArm(longMode, chunkCb)` (R289). -/
def LongPacket.receiveArm (l : LongPacket) (longMode chunkCb : Bool) : LongPacket :=
  { l with
    dir := .rx, phase := .headerPending, longMode := longMode, chunkCb := chunkCb, total := 0, remaining := 0,
    payloadLen := 0, bufOffset := 0, rxPayloadOffset := 0 }

/-- `LpProgramRxLength()` (R289). -/
def State.lpProgramRxLength (s : State) : State :=
  let s := s.setMp
    { s.mp with
      payloadLen := BitVec.ofNat 16 (lenBytesOf s.lp.lenW + s.lp.maxLen.toNat + crcBytesOf s.lp.crcW) }
  s.ri (.setPacketParams s.buildPktFsk)

/-- The end every receive start has in common: timer, antenna switch, mode operation (R214, R288). -/
def State.rxLaunch (s : State) (boosted : Bool) (timeout : U32) : State :=
  let s := if timeout = 0 then s else s.tmrArm .rx timeout
  let s := s.ri (.setSwitch s.mp.antSel .rx)
  let ticks := if timeout = 0 then rxContinuousTicks else msToTicks timeout
  (s.ri (if boosted then .setRxBoosted ticks else .setRx ticks)).setRadio .rxRunning

/-- The start of an RFW-mode reception (R214, R288). -/
def State.rfwRxStart (s : State) (longMode boosted : Bool) (timeout : U32) : State :=
  let s := s.abortIfBusy
  (((s.setLp (s.lp.receiveArm longMode longMode)).armIrq maskRfwRx).lpProgramRxLength).rxLaunch boosted timeout

/-- `ReceiveLongPacket(boostedMode, timeout, chunkCb)` (R288). -/
def execReceiveLongPacket (boosted : Bool) (timeout : U32) (chunkCb : Bool) (s : State) :
    Host.Outcome State Fault Refusal :=
  .next (s.ifInit respError fun s =>
    if s.mp.rxValid && s.lp.enable && chunkCb then (s.rfwRxStart true boosted timeout).respond respOk
    else s.respond respError)

/-- `LpRxDone()` (R293). -/
def State.lpRxDone (s : State) : State :=
  let s := (((s.tmrStop .rx).tmrStop .chunk).standby).setRadio .idle
  let st := s.riPacketStatus
  let payload := if s.lp.longMode then [] else s.rxStage.take s.lp.payloadLen.toNat
  st.2.lpTransferReset.callback (.rxDone payload s.lp.payloadLen st.1.rssi st.1.snrOrCfo)

/-- `LpRxFail(...)` with its terminal callback: `RxError` (R294) or `RxTimeout` (R295). -/
def State.lpRxFail (s : State) (c : Callback) : State :=
  (((((s.tmrStop .rx).tmrStop .chunk).lpTransferReset).standby).setRadio .idle).callback c

/-- `LpScheduleRxChunk()` (R291). -/
def State.lpScheduleRxChunk (s : State) : State :=
  if chunkLen < s.lp.remaining.toNat then
    (s.setLp { s.lp with phase := .streaming }).tmrArm .chunk (lpChunkMs chunkLen s.lp.bitrate)
  else
    (s.setLp { s.lp with phase := .lastChunk }).tmrArm .chunk
      (lpChunkMs (s.lp.remaining.toNat + crcBytesOf s.lp.crcW) s.lp.bitrate)

/-- The decoded length of a de-whitened header of one or two bytes (R290). -/
def headerLen (h : List Byte) : U16 :=
  match h with
  | [b] => b.setWidth 16
  | b0 :: b1 :: _ => b0 ++ b1
  | [] => 0

/-- The length a received header stands for, and the engine's registers after it: de-whitened, then into the CRC (R290). -/
def LongPacket.rxHeader (l : LongPacket) (h : List Byte) : U16 × LongPacket :=
  let w := l.whiteRun h
  (headerLen w.1, w.2.crcRun w.1)

/-- The end of the header procedure: reject or accept the decoded length (R290). -/
def State.lpAcceptLength (s : State) (len : U16) : State :=
  if s.lp.maxLen.toNat < len.toNat then s.lpRxFail .rxError
  else
    (s.setLp
      { s.lp with
        payloadLen := len
        remaining := len
        total := BitVec.ofNat 32 (lenBytesOf s.lp.lenW + len.toNat + crcBytesOf s.lp.crcW)
        bufOffset := BitVec.ofNat 8 (lenBytesOf s.lp.lenW) }).lpScheduleRxChunk

/-- `RI.PollRxBytes(n, waitMs)` answers `Arrived` (R84): bit 0 of the answer. -/
def State.pollArrived (s : State) : Bool := (s.answer 0).getLsbD 0

/-- The header procedure (R290). -/
def State.lpHeader (s : State) : State :=
  let s := s.setLp s.lp.seed
  let w := lenBytesOf s.lp.lenW
  if w = 0 then s.lpAcceptLength s.lp.fixedLen
  else
    let arrived := s.pollArrived
    let s := (s.ri (.pollRxBytes (BitVec.ofNat 8 w) (lpHeaderWaitMs w s.lp.bitrate))).skipAnswers 1
    if arrived then
      let h := s.riReadBuffer 0 w
      let r := s.lp.rxHeader h.1
      (h.2.setLp r.2).lpAcceptLength r.1
    else s.lpRxFail .rxTimeout

/-- `RxStage[off + i] <- b[i]` (R292). -/
def stageWrite (stage : List Byte) (off : Nat) (b : List Byte) : List Byte :=
  stage.take off ++ b ++ stage.drop (off + b.length)

/-- Delivery of the staged bytes in long mode (R292): gated by `LP.ChunkCb` (R390). -/
def State.storeChunk (s : State) : State :=
  let n := s.lp.rxPayloadOffset
  let s := if s.lp.chunkCb then s.emit (.cb (.storeChunk (s.rxStage.take n.toNat) n)) else s
  s.setLp { s.lp with rxPayloadOffset := 0 }

/-- The de-whitened trailer does not match `CrcFinal()` (R292). -/
def LongPacket.crcMismatch (l : LongPacket) (trailer : List Byte) : Bool := l.crcW == .w2 && trailer != beBytes l.crcFinal

/-- The plain bytes of one received chunk of `n` payload bytes, and the engine's registers after it: all of it is
de-whitened, the payload goes into the CRC (R292). -/
def LongPacket.rxChunk (l : LongPacket) (n : Nat) (b : List Byte) : List Byte × LongPacket :=
  let w := l.whiteRun b
  (w.1, w.2.crcRun (w.1.take n))

/-- The receive chunk rule after its read: staging, delivery and the end of the packet (R292), with the plain bytes `b`
of a chunk of `n` payload bytes. -/
def State.rxChunkStore (s : State) (final : Bool) (n : Nat) (b : List Byte) : State :=
  if radioBufSize ≤ s.lp.rxPayloadOffset.toNat + n then s.lpRxFail .rxError
  else
    let s := { s with
      rxStage := stageWrite s.rxStage s.lp.rxPayloadOffset.toNat (b.take n)
      lp := { s.lp with
        rxPayloadOffset := s.lp.rxPayloadOffset + BitVec.ofNat 16 n
        remaining := s.lp.remaining - BitVec.ofNat 16 n } }
    let s := if s.lp.longMode = true ∧ 0 < n then s.storeChunk else s
    if final then
      if s.lp.crcMismatch (b.drop n) then s.lpRxFail .rxError else s.lpRxDone
    else s.lpScheduleRxChunk

/-- The receive chunk rule of a `ChunkTimer` expiry (R292). That the transceiver has written those ring bytes, and not yet written
over them, is assumed of it (R86, R436; log 23). -/
def State.rxChunkExpiry (s : State) : State :=
  let final := s.lp.phase == .lastChunk
  let n := if final then s.lp.remaining.toNat else chunkLen
  let m := if final then n + crcBytesOf s.lp.crcW else n
  let r := s.riReadBuffer s.lp.bufOffset m
  let l : LongPacket := { s.lp with bufOffset := s.lp.bufOffset + BitVec.ofNat 8 m }
  let c := l.rxChunk n r.1
  (r.2.setLp c.2).rxChunkStore final n c.1

end Sys2Proof.Machine
end

