-- ==== Sys2Proof/Machine/Events.lean ====
section
/-! DEFINITION. Events (`60_exceptions.md`): the IRQ raise step (R352), the dispatch with its state gating (R353 to R363), the timer
expiries (R365 to R367), the command `IrqProcess` (R225), and what a malformed input does (R100, R108). -/

namespace Sys2Proof.Machine

/-! ## IRQ raise step (R352) -/

/-- The vector bits that are events or the `CadDetected` qualifier (R352). -/
def eventBits : U16 := 0x43FF

/-- Queue an event, or discard it and raise `IrqOverrun` when the queue is full (R352, U5). -/
def State.pushEvent (s : State) (e : IrqEvent) : State :=
  if s.irqQ.length < irqQDepth then s.setIrqQ (s.irqQ ++ [e]) else s.raiseFault .irqOverrun

/-- The IRQ raise step (R352): reserved bits raise `BadEvent`; the enabled events are queued in priority order. -/
def State.raiseIrq (s : State) (v : U16) : State :=
  let s := if v &&& reservedIrqBits = 0 then s else s.raiseFault .badEvent
  (vectorEvents (v &&& s.irqMaskShadow &&& eventBits)).foldl State.pushEvent s

/-! ## Completion paths -/

/-- The common tail of a transmission's end: timers, transfer, Standby, `Idle` (R356, R358). -/
def State.endTx (s : State) : State :=
  ((((s.tmrStop .tx).tmrStop .chunk).lpTransferReset).standby).setRadio .idle

/-- `TxDone` (R356). -/
def State.txDonePath (s : State) : State := s.endTx.callback .txDone

/-- `TxTimeoutPath()` (R358). -/
def State.txTimeoutPath (s : State) : State := s.endTx.callback .txTimeout

/-- `RxTimeoutPath()` (R357). -/
def State.rxTimeoutPath (s : State) : State :=
  (((((s.tmrStop .rx).tmrStop .chunk).lpTransferReset).standby).setRadio .idle).callback .rxTimeout

/-- The receive error path (R359). -/
def State.rxErrorPath (s : State) : State :=
  (((s.tmrStop .rx).standby).setRadio .idle).callback .rxError

/-- The first two lines of R355: the timer, and Standby unless the reception is continuous. -/
def State.endRx (s : State) : State :=
  let s := s.tmrStop .rx
  if s.mp.rxContinuous then s else s.standby.setRadio .idle

/-- The length and ring offset `RI.GetRxBufferStatus()` answers (R84), and the state after it. -/
def State.riRxBufferStatus (s : State) : (Byte × Byte) × State :=
  ((s.answerByte 0, s.answerByte 1), (s.ri .getRxBufferStatus).skipAnswers 2)

/-- `RxDone` (R355). -/
def State.rxDonePath (s : State) : State :=
  let bs := s.endRx.riRxBufferStatus
  let p := bs.2.riReadBuffer bs.1.2 bs.1.1.toNat
  let st := p.2.riPacketStatus
  st.2.callback (.rxDone p.1 (bs.1.1.setWidth 16) st.1.rssi st.1.snrOrCfo)

/-- `CadDone(detected)` (R360). -/
def State.cadDonePath (s : State) (detected : Bool) : State :=
  (s.standby.setRadio .idle).callback (.cadDone detected)

/-! ## Dispatch with state gating (R353): an event the state does not expect is dropped -/

def State.dispatchTxDone (s : State) : State := if s.radioState = .txRunning then s.txDonePath else s

def State.dispatchRxDone (s : State) : State :=
  if s.radioState = .rxRunning ∧ s.lp.dir = .none then s.rxDonePath else s

def State.dispatchTimeout (s : State) : State :=
  match s.radioState with
  | .txRunning => s.txTimeoutPath
  | .rxRunning => s.rxTimeoutPath
  | .idle | .cad => s

def State.dispatchRxError (s : State) : State :=
  if s.radioState = .rxRunning ∧ s.lp.dir = .none then s.rxErrorPath else s

def State.dispatchCadDone (s : State) (detected : Bool) : State :=
  if s.radioState = .cad then s.cadDonePath detected else s

def State.dispatchSyncWordValid (s : State) : State :=
  if s.radioState = .rxRunning ∧ s.lp.dir = .rx ∧ s.lp.phase = .headerPending then s.lpHeader else s

/-- `Dispatch(e)` (R353 to R363); `PreambleDetected`, `HeaderValid` and `LrFhssHop` have no effect (R362, R363). -/
def State.dispatchEvent (s : State) : IrqEvent → State
  | .txDone => s.dispatchTxDone
  | .rxDone => s.dispatchRxDone
  | .preambleDetected => s
  | .syncWordValid => s.dispatchSyncWordValid
  | .headerValid => s
  | .headerError => s.dispatchRxError
  | .crcError => s.dispatchRxError
  | .cadDone detected => s.dispatchCadDone detected
  | .timeout => s.dispatchTimeout
  | .lrFhssHop => s

/-! ## The IRQ rows of the table (log 12): each is the dispatch of that event, already popped -/

/-- `IRQ.TxDone` (R356). -/
def execIrqTxDone (s : State) : Host.Outcome State Fault Refusal := .next s.dispatchTxDone

/-- `IRQ.RxDone` (R355). -/
def execIrqRxDone (s : State) : Host.Outcome State Fault Refusal := .next s.dispatchRxDone

/-- `IRQ.PreambleDetected` (R362): no effect. -/
def execIrqPreambleDetected (s : State) : Host.Outcome State Fault Refusal := .next s

/-- `IRQ.SyncWordValid` (R361). -/
def execIrqSyncWordValid (s : State) : Host.Outcome State Fault Refusal := .next s.dispatchSyncWordValid

/-- `IRQ.HeaderValid` (R362): no effect. -/
def execIrqHeaderValid (s : State) : Host.Outcome State Fault Refusal := .next s

/-- `IRQ.HeaderError` (R359). -/
def execIrqHeaderError (s : State) : Host.Outcome State Fault Refusal := .next s.dispatchRxError

/-- `IRQ.CrcError` (R359). -/
def execIrqCrcError (s : State) : Host.Outcome State Fault Refusal := .next s.dispatchRxError

/-- `IRQ.CadDone` (R360). -/
def execIrqCadDone (detected : Bool) (s : State) : Host.Outcome State Fault Refusal := .next (s.dispatchCadDone detected)

/-- `IRQ.Timeout` (R357, R358). -/
def execIrqTimeout (s : State) : Host.Outcome State Fault Refusal := .next s.dispatchTimeout

/-- `IRQ.LrFhssHop` (R363): no effect. -/
def execIrqLrFhssHop (s : State) : Host.Outcome State Fault Refusal := .next s

/-- `IRQ.reserved` (R352, R108): reserved bits raise `BadEvent` and are ignored. -/
def execIrqReserved (_bits : U16) (s : State) : Host.Outcome State Fault Refusal := .next (s.raiseFault .badEvent)

/-! ## Timer expiries (R365 to R367): ignored while the timer is not armed -/

/-- What a `TxTimer` expiry does to an armed timer (R365). -/
def State.txTimerExpiry (s : State) : State :=
  let s := s.tmrExpired .tx
  if s.radioState = .txRunning then s.txTimeoutPath else s

/-- What an `RxTimer` expiry does to an armed timer (R366). -/
def State.rxTimerExpiry (s : State) : State :=
  let s := s.tmrExpired .rx
  if s.radioState = .rxRunning then s.rxTimeoutPath else s

/-- What a `ChunkTimer` expiry does to an armed timer (R367). -/
def State.chunkTimerExpiry (s : State) : State :=
  let s := s.tmrExpired .chunk
  if s.radioState = .txRunning ∧ s.lp.dir = .tx ∧ s.lp.phase = .streaming then s.txChunkExpiry
  else if s.radioState = .rxRunning ∧ s.lp.dir = .rx ∧ (s.lp.phase = .streaming ∨ s.lp.phase = .lastChunk) then
    s.rxChunkExpiry
  else s

/-- `EXPIRE.TxTimer` (R365). -/
def execExpireTxTimer (s : State) : Host.Outcome State Fault Refusal :=
  .next (if s.txTimer.armed then s.txTimerExpiry else s)

/-- `EXPIRE.RxTimer` (R366). -/
def execExpireRxTimer (s : State) : Host.Outcome State Fault Refusal :=
  .next (if s.rxTimer.armed then s.rxTimerExpiry else s)

/-- `EXPIRE.ChunkTimer` (R367). -/
def execExpireChunkTimer (s : State) : Host.Outcome State Fault Refusal :=
  .next (if s.chunkTimer.armed then s.chunkTimerExpiry else s)

/-! ## IrqProcess and malformed inputs -/

/-- Pop one event and dispatch it; nothing when the queue is empty (R353, R225). -/
def State.dispatchNext (s : State) : State :=
  match s.irqQ with
  | [] => s
  | e :: q => (s.setIrqQ q).dispatchEvent e

/-- `IrqProcess()` (R225). -/
def execIrqProcess (s : State) : Host.Outcome State Fault Refusal :=
  .next (s.ifInit respError fun s => s.dispatchNext.respond respOk)

/-- A reserved opcode or a malformed packet (R100, R108): `raise IllegalCommand`, `STATUS_ERROR`. -/
def State.illegalCommand (s : State) : State := (s.raiseFault .illegalCommand).respond respError

/-- A timer line code above 2 (R108): `raise BadEvent`. -/
def State.badTimerLine (s : State) : State := s.raiseFault .badEvent

end Sys2Proof.Machine
end

