-- ==== Sys2Proof/Machine/PassThrough.lean ====
section
/-! DEFINITION. The register pass-through commands (`42_txrx_commands.md` R230 to R233): each emits the one operation of its
name and touches no register of the block. -/

namespace Sys2Proof.Machine

/-- `Write(addr, data)` (R230). -/
def execWrite (addr : U16) (data : Byte) (s : State) : Host.Outcome State Fault Refusal :=
  .next (s.ifInit respError fun s => (s.ri (.write addr data)).respond respOk)

/-- `Read(addr)` (R231). -/
def execRead (addr : U16) (s : State) : Host.Outcome State Fault Refusal :=
  .next (s.ifInit [0] fun s => ((s.ri (.read addr)).skipAnswers 1).respond [s.answerByte 0])

/-- `WriteRegisters(addr, n, data)` (R232): nothing is emitted for `n` = 0. -/
def execWriteRegisters (addr : U16) (n : Byte) (data : List Byte) (s : State) : Host.Outcome State Fault Refusal :=
  .next (s.ifInit respError fun s =>
    (if n = 0 then s else s.ri (.writeRegisters addr data n)).respond respOk)

/-- `ReadRegisters(addr, n)` (R233): an empty response and no operation for `n` = 0; `n` zero bytes before `Init`. -/
def execReadRegisters (addr : U16) (n : Byte) (s : State) : Host.Outcome State Fault Refusal :=
  .next (s.ifInit (List.replicate n.toNat 0) fun s =>
    if n = 0 then s.respond []
    else ((s.ri (.readRegisters addr n)).skipAnswers n.toNat).respond (s.answerBytes n.toNat))

end Sys2Proof.Machine
end

