-- ==== Sys2Proof/Machine/TimeOnAir.lean ====
section
/-! DEFINITION. The Time-on-Air Calculator and the pure queries (`41_time_on_air.md` R190 to R198). All arithmetic is on
unbounded integers (R193). -/

namespace Sys2Proof.Machine

/-- `ToaFsk` in milliseconds (R191). -/
def toaFsk (a : AirParams) : Nat :=
  if a.datarate = 0 then 0
  else
    let numerator := a.preambleLen.toNat * 8 + (if a.fixLen then 0 else 8) + 24 +
      (a.payloadLen.toNat + (if a.crcOn then 2 else 0)) * 8
    ceilDiv (numerator * 1000) a.datarate.toNat

/-- The symbol count of `ToaLora` (R192), operands in range. -/
def toaLoraSymbols (a : AirParams) : Nat :=
  let sf := a.datarate.toNat
  let bwHz := loraBwHz a.bandwidth
  let pre := (loraPreamble a.datarate a.preambleLen).toNat
  let cn0 : Int := a.payloadLen.toNat * 8 + (if a.crcOn then 16 else 0) - 4 * sf + (if a.fixLen then 0 else 20)
  let cn : Int := if 6 < sf then cn0 + 8 else cn0
  let cd : Nat := if 6 < sf ∧ ldro bwHz a.datarate = true then 4 * (sf - 2) else 4 * sf
  ceilDiv cn.toNat cd * (a.coderate.toNat + 4) + pre + 12 + (if sf ≤ 6 then 2 else 0)

/-- `ToaLora` in milliseconds (R192). -/
def toaLora (a : AirParams) : Nat :=
  if loraInRange a.datarate a.bandwidth a.coderate then
    ceilDiv ((4 * toaLoraSymbols a + 1) * 2 ^ (a.datarate.toNat - 2) * 1000) (loraBwHz a.bandwidth).toNat
  else 0

/-- `TimeOnAir(...)` in milliseconds (R190): 0 for the four other kinds and for no kind. -/
def timeOnAirMs (a : AirParams) : U32 :=
  match modemOf a.modem with
  | some .fsk => BitVec.ofNat 32 (toaFsk a)
  | some .lora => BitVec.ofNat 32 (toaLora a)
  | some .msk | some .bpsk | some .sigfoxTx | some .sigfoxRx | none => 0

/-- `TimeOnAir` (R190): accepted before `Init`, no effect but the response. -/
def execTimeOnAir (a : AirParams) (s : State) : Host.Outcome State Fault Refusal :=
  .next (s.respond (u32Bytes (timeOnAirMs a)))

/-- `CheckRfFrequency` (R197). -/
def execCheckRfFrequency (freq : U32) (s : State) : Host.Outcome State Fault Refusal :=
  .next (s.respond (respBool (Config.freqSupported freq)))

/-- `GetWakeupTime` (R198). -/
def execGetWakeupTime (s : State) : Host.Outcome State Fault Refusal :=
  .next (s.respond (u32Bytes Config.wakeupTimeMs))

end Sys2Proof.Machine
end

