-- ==== Sys2Proof/Machine/ModemConfig.lean ====
section
/-! DEFINITION. The Modem Configuration Engine (`40_modem_config.md` R140 to R159) with `RfwInit` and `RfwDeInit`
(`43_long_packet.md` R271, R272). Every accepted configuration aborts first (R140); a refused one does nothing (R141,
R142). -/

namespace Sys2Proof.Machine

/-! ## RFW mode -/

/-- `RfwDeInit()` (R272). -/
def State.rfwDeInit (s : State) : State := s.setLp { s.lp.transferReset with enable := false }

/-- `RfwInit()` (R271), from the `MP` file just written. -/
def State.rfwInit (s : State) : State :=
  s.setLp
    { s.lp.transferReset with
      enable := true
      lenW := lenWidthOf s.mp.lengthMode
      crcW := crcWidthOf s.mp.crcType
      crcType := s.mp.crcType
      crcPoly := s.mp.crcPoly
      crcSeed := s.mp.crcSeed
      whiteOn := s.mp.whiteMode != .off
      whiteSeed := s.mp.whiteSeed
      maxLen := s.mp.maxPayloadLen
      fixedLen := s.mp.maxPayloadLen
      bitrate := s.mp.datarate }

/-! ## Shared pieces of the configuration commands -/

/-- The value `IqWorkaround` writes over `v`: the bit cleared for inverted IQ, set for standard IQ (R147). -/
def iqPolarityByte (iq : Bool) (v : Byte) : Byte :=
  let bit : Byte := 1#8 <<< Config.iqPolBit.val
  if iq then v &&& ~~~bit else v ||| bit

/-- `IqWorkaround(iq)` (R147). -/
def State.iqWorkaround (s : State) (iq : Bool) : State :=
  ((s.ri (.read Config.addrIqPolarity)).skipAnswers 1).ri
    (.write Config.addrIqPolarity (iqPolarityByte iq (s.answerByte 0)))

/-- `SYNCWORD_FSK` followed by five zero bytes (R152). -/
def syncFsk : Bytes8 := ⟨Config.syncwordFsk.1, Config.syncwordFsk.2.1, Config.syncwordFsk.2.2, 0, 0, 0, 0, 0⟩

/-- `SYNCWORD_SIGFOX_RX` followed by six zero bytes (R152). -/
def syncSigfoxRx : Bytes8 := ⟨Config.syncwordSigfoxRx.1, Config.syncwordSigfoxRx.2, 0, 0, 0, 0, 0, 0⟩

/-- `fixLen ? Fixed : Var1` (R36). -/
def legacyLengthMode (fixLen : Bool) : LengthMode := if fixLen then .fixed else .var1

/-! ## SetModem, SetChannel, SetPublicNetwork -/

/-- `SetModem(modem)` (R151). -/
def execSetModem (modem : Byte) (s : State) : Host.Outcome State Fault Refusal :=
  .next (s.ifInit respError fun s =>
    match modemOf modem with
    | some k => (s.setMp { s.mp with modem := k }).respond respOk
    | none => s.respond respUnsupported)

/-- `SetChannel(freq)` (R159). -/
def execSetChannel (freq : U32) (s : State) : Host.Outcome State Fault Refusal :=
  .next (s.ifInit respError fun s => (s.ri (.setRfFrequency freq)).respond respOk)

/-- `SetPublicNetwork(enable)` (R158): the high byte at the lower address (R77). -/
def execSetPublicNetwork (enable : Bool) (s : State) : Host.Outcome State Fault Refusal :=
  .next (s.ifInit respError fun s =>
    let w := if enable then Config.loraSyncwordPublic else Config.loraSyncwordPrivate
    (((s.setMp { s.mp with publicNetwork := enable }).ri (.write Config.addrLoraSyncword (w.extractLsb' 8 8))).ri
      (.write (Config.addrLoraSyncword + 1) (w.extractLsb' 0 8))).respond respOk)

/-! ## SetRxConfig (R152) -/

/-- What every kind does first: abort, leave RFW mode, and the fields common to the kinds. -/
def State.rxConfigHead (s : State) (k : ModemKind) (c : RxConfig) : State :=
  let s := s.abort.rfwDeInit
  s.setMp
    { s.mp with
      modem := k
      rxContinuous := c.rxContinuous
      symbTimeout := effSymbTimeout c.rxContinuous c.symbTimeout
      maxPayloadLen := if c.fixLen then c.payloadLen.setWidth 16 else 255
      freqHopOn := c.freqHopOn
      hopPeriod := c.hopPeriod
      bandwidthAfc := c.bandwidthAfc }

/-- Push the FSK records of a receive configuration and record its timeout (R152, FSK and SigfoxRx). -/
def State.rxConfigFskPush (s : State) : State :=
  let s := s.ri (.setModulationParams (.fsk false s.mp.datarate s.mp.fdev (Config.fskBwCode s.mp.bw)))
  let s := s.ri (.setPacketParams s.buildPktFsk)
  s.setMp { s.mp with rxTimeoutCfg := rxTimeoutMs s.mp.symbTimeout s.mp.datarate, rxValid := true }

/-- The body of `SetRxConfig` for FSK, from `Abort()` on (R152); `IsChannelFree` runs it too (R222). -/
def State.rxConfigFsk (s : State) (c : RxConfig) : State :=
  let s := s.rxConfigHead .fsk c
  (s.setMp
    { s.mp with
      datarate := c.datarate
      bw := c.bandwidth
      preambleLen := c.preambleLen
      syncWordLen := 3
      syncWord := syncFsk
      fixLen := c.fixLen
      lengthMode := legacyLengthMode c.fixLen
      payloadLen := s.mp.maxPayloadLen
      crcOn := c.crcOn
      crcType := if c.crcOn then .ccitt2 else .off
      crcPoly := Config.fskCrcPoly
      crcSeed := Config.fskCrcSeed
      whiteMode := .hw
      whiteSeed := Config.fskWhiteSeed }).rxConfigFskPush

/-- The body for SigfoxRx: as FSK, with fixed length, no CRC, and its own sync word and whitening seed (R152). -/
def State.rxConfigSigfox (s : State) (c : RxConfig) : State :=
  let s := s.rxConfigHead .sigfoxRx c
  (s.setMp
    { s.mp with
      datarate := c.datarate
      bw := c.bandwidth
      preambleLen := c.preambleLen
      syncWordLen := 2
      syncWord := syncSigfoxRx
      fixLen := true
      lengthMode := .fixed
      maxPayloadLen := c.payloadLen.setWidth 16
      payloadLen := c.payloadLen.setWidth 16
      crcOn := false
      crcType := .off
      crcPoly := Config.fskCrcPoly
      crcSeed := Config.fskCrcSeed
      whiteMode := .off
      whiteSeed := sigfoxRxWhiteSeed }).rxConfigFskPush

/-- The body for LoRa (R152). -/
def State.rxConfigLora (s : State) (c : RxConfig) : State :=
  let s := s.rxConfigHead .lora c
  let bwHz := loraBwHz c.bandwidth
  let s := s.setMp
    { s.mp with
      datarate := c.datarate
      bw := bwHz
      coderate := c.coderate
      ldro := ldro bwHz c.datarate
      preambleLen := loraPreamble c.datarate c.preambleLen
      fixLen := c.fixLen
      lengthMode := legacyLengthMode c.fixLen
      payloadLen := s.mp.maxPayloadLen
      crcOn := c.crcOn
      crcType := if c.crcOn then .other else .off
      iqInverted := c.iqInverted }
  let s := s.ri (.setModulationParams (.lora (c.datarate.setWidth 8) bwHz c.coderate s.mp.ldro))
  let s := s.ri (.setPacketParams s.buildPktLora)
  let s := s.iqWorkaround c.iqInverted
  s.setMp { s.mp with rxTimeoutCfg := noRxTimeout, rxValid := true }

/-- `SetRxConfig(...)` (R152). -/
def execSetRxConfig (c : RxConfig) (s : State) : Host.Outcome State Fault Refusal :=
  .next (s.ifInit respError fun s =>
    match modemOf c.modem with
    | some .fsk => if c.datarate = 0 then s.respond respError else (s.rxConfigFsk c).respond respOk
    | some .sigfoxRx => if c.datarate = 0 then s.respond respError else (s.rxConfigSigfox c).respond respOk
    | some .lora =>
      if loraInRange c.datarate c.bandwidth c.coderate then (s.rxConfigLora c).respond respOk
      else s.respond respError
    | some .msk | some .bpsk | some .sigfoxTx | none => s.respond respUnsupported)

/-! ## SetTxConfig (R153) -/

/-- What every kind does first. -/
def State.txConfigHead (s : State) (k : ModemKind) (c : TxConfig) : State :=
  let s := s.abort.rfwDeInit
  s.setMp
    { s.mp with modem := k, freqHopOn := c.freqHopOn, hopPeriod := c.hopPeriod, payloadLen := s.mp.maxPayloadLen }

/-- What every transmit configuration ends with: power, antenna selector, timeout, `MP.TxValid` (R153, R156). -/
def State.txConfigTail (s : State) (power : Byte) (timeout : U32) : State :=
  let s := s.setPower power
  s.setMp { s.mp with txTimeout := timeout, txValid := true }

/-- The body for FSK (R153). -/
def State.txConfigFsk (s : State) (c : TxConfig) : State :=
  let s := s.txConfigHead .fsk c
  let s := s.setMp
    { s.mp with
      datarate := c.datarate
      bw := c.bandwidth
      fdev := c.fdev
      preambleLen := c.preambleLen
      syncWordLen := 3
      syncWord := syncFsk
      fixLen := c.fixLen
      lengthMode := legacyLengthMode c.fixLen
      crcOn := c.crcOn
      crcType := if c.crcOn then .ccitt2 else .off
      crcPoly := Config.fskCrcPoly
      crcSeed := Config.fskCrcSeed
      whiteMode := .hw
      whiteSeed := Config.fskWhiteSeed }
  let s := s.ri (.setModulationParams (.fsk false c.datarate c.fdev (Config.fskBwCode c.bandwidth)))
  s.ri (.setPacketParams s.buildPktFsk)

/-- The body for LoRa (R153). -/
def State.txConfigLora (s : State) (c : TxConfig) : State :=
  let s := s.txConfigHead .lora c
  let bwHz := loraBwHz c.bandwidth
  let s := s.setMp
    { s.mp with
      datarate := c.datarate
      bw := bwHz
      coderate := c.coderate
      ldro := ldro bwHz c.datarate
      preambleLen := loraPreamble c.datarate c.preambleLen
      fixLen := c.fixLen
      lengthMode := legacyLengthMode c.fixLen
      crcOn := c.crcOn
      crcType := if c.crcOn then .other else .off
      iqInverted := c.iqInverted }
  let s := s.ri (.setModulationParams (.lora (c.datarate.setWidth 8) bwHz c.coderate s.mp.ldro))
  (s.ri (.setPacketParams s.buildPktLora)).iqWorkaround c.iqInverted

/-- The body for SigfoxTx (R153). -/
def State.txConfigSigfox (s : State) (c : TxConfig) : State :=
  let s := s.txConfigHead .sigfoxTx c
  let s := s.setMp { s.mp with datarate := c.datarate }
  (s.ri (.setModulationParams (.bpsk c.datarate))).ri (.setPacketParams (.bpsk s.mp.payloadLen))

/-- `SetTxConfig(...)` (R153). Its ranges are "as in rule R152", which names `SigfoxRx` and not `SigfoxTx`; that a `datarate` of 0 is
a violation for `SigfoxTx` too is the model's reading (DEDUCED, log 25; unsafe for a block that accepts it). -/
def execSetTxConfig (c : TxConfig) (s : State) : Host.Outcome State Fault Refusal :=
  .next (s.ifInit respError fun s =>
    match modemOf c.modem with
    | some .fsk =>
      if c.datarate = 0 then s.respond respError
      else ((s.txConfigFsk c).txConfigTail c.power c.timeout).respond respOk
    | some .lora =>
      if loraInRange c.datarate c.bandwidth c.coderate then
        ((s.txConfigLora c).txConfigTail c.power c.timeout).respond respOk
      else s.respond respError
    | some .sigfoxTx =>
      if c.datarate = 0 then s.respond respError
      else ((s.txConfigSigfox c).txConfigTail c.power c.timeout).respond respOk
    | some .msk | some .bpsk | some .sigfoxRx | none => s.respond respUnsupported)

/-! ## Generic configurations (R155, R156) -/

/-- The `MP` fields a record writes in both directions (R155, R156). -/
def ModemParams.writeGeneric (m : ModemParams) (g : Gcfg) (gm : GenericModes) : ModemParams :=
  { m with
    preambleLen := g.preambleLen
    syncWordLen := g.syncWordLen
    syncWord := g.syncWord
    lengthMode := gm.lengthMode
    fixLen := gm.lengthMode == .fixed
    maxPayloadLen := g.maxPayloadLen
    crcType := gm.crcType
    crcOn := gm.crcType != .off
    crcPoly := g.crcPoly
    crcSeed := g.crcSeed
    whiteMode := gm.whiteMode
    whiteSeed := g.whiteSeed.setWidth 9 }

/-- `RfwInit()` if the record selects RFW mode, and the packet length it programs (R155, R156). -/
def State.genericLength (s : State) (g : Gcfg) (gm : GenericModes) : State :=
  if gm.rfw then
    let s := s.rfwInit
    s.setMp { s.mp with payloadLen := BitVec.ofNat 16 (frameMax gm.lengthMode gm.crcType g.maxPayloadLen) }
  else s.setMp { s.mp with payloadLen := g.maxPayloadLen }

/-- The body of `SetRxGenericConfig` (R155). -/
def State.rxGeneric (s : State) (g : Gcfg) (gm : GenericModes) (rxContinuous : Bool) (symbTimeout : U16) : State :=
  let s := s.abort.rfwDeInit
  let st := effSymbTimeout rxContinuous symbTimeout
  let s := s.setMp
    { s.mp.writeGeneric g gm with
      modem := .fsk, datarate := g.bitrate, bw := g.bandwidth, rxContinuous := rxContinuous, symbTimeout := st }
  let s := s.genericLength g gm
  let s := s.ri (.setModulationParams (.fsk false g.bitrate s.mp.fdev (Config.fskBwCode g.bandwidth)))
  let s := s.ri (.setPacketParams s.buildPktFsk)
  s.setMp { s.mp with rxTimeoutCfg := rxTimeoutMs st g.bitrate, rxValid := true }

/-- `SetRxGenericConfig(cfg, rxContinuous, symbTimeout)` (R155). -/
def execSetRxGenericConfig (g : Gcfg) (rxContinuous : Bool) (symbTimeout : U16) (s : State) :
    Host.Outcome State Fault Refusal :=
  .next (s.ifInit respError fun s =>
    match modemOf g.modem with
    | some .fsk =>
      match genericModes g with
      | some gm => (s.rxGeneric g gm rxContinuous symbTimeout).respond respOk
      | none => s.respond respError
    | some .lora | some .msk | some .bpsk | some .sigfoxTx | some .sigfoxRx | none => s.respond respUnsupported)

/-- The body of `SetTxGenericConfig` for FSK and MSK (R156). -/
def State.txGenericFsk (s : State) (k : ModemKind) (g : Gcfg) (gm : GenericModes) : State :=
  let s := s.abort.rfwDeInit
  let s := s.setMp { s.mp.writeGeneric g gm with modem := k, datarate := g.bitrate, fdev := g.fdev }
  let s := s.genericLength g gm
  let s := s.ri (.setModulationParams (.fsk (k == .msk) g.bitrate g.fdev (Config.fskBwCode s.mp.bw)))
  s.ri (.setPacketParams s.buildPktFsk)

/-- The body of `SetTxGenericConfig` for BPSK (R156). -/
def State.txGenericBpsk (s : State) (g : Gcfg) : State :=
  let s := s.abort.rfwDeInit
  let s := s.setMp { s.mp with modem := .bpsk, datarate := g.bitrate }
  (s.ri (.setModulationParams (.bpsk g.bitrate))).ri (.setPacketParams (.bpsk s.mp.payloadLen))

/-- The FSK and MSK cases of `SetTxGenericConfig`: the range checks, then the body (R156). -/
def State.txGenericChecked (s : State) (k : ModemKind) (g : Gcfg) (power : Byte) (timeout : U32) : State :=
  match genericModes g with
  | some gm => ((s.txGenericFsk k g gm).txConfigTail power timeout).respond respOk
  | none => s.respond respError

/-- `SetTxGenericConfig(cfg, power, timeout)` (R156). -/
def execSetTxGenericConfig (g : Gcfg) (power : Byte) (timeout : U32) (s : State) :
    Host.Outcome State Fault Refusal :=
  .next (s.ifInit respError fun s =>
    match modemOf g.modem with
    | some .fsk => s.txGenericChecked .fsk g power timeout
    | some .msk => s.txGenericChecked .msk g power timeout
    | some .bpsk =>
      if g.bitrate = 0 then s.respond respError
      else ((s.txGenericBpsk g).txConfigTail power timeout).respond respOk
    | some .lora | some .sigfoxTx | some .sigfoxRx | none => s.respond respUnsupported)

/-! ## SetMaxPayloadLength (R157) -/

/-- What an accepted `SetMaxPayloadLength` does, for FSK or LoRa (R157). -/
def State.setMaxPayload (s : State) (k : ModemKind) (max : Byte) : State :=
  let s := s.setMp { s.mp with maxPayloadLen := max.setWidth 16 }
  if k = .lora then
    let s := s.setMp { s.mp with payloadLen := max.setWidth 16 }
    s.ri (.setPacketParams s.buildPktLora)
  else if s.mp.fixLen then s
  else
    let s := s.setMp { s.mp with payloadLen := max.setWidth 16 }
    s.ri (.setPacketParams s.buildPktFsk)

/-- The precondition of R157: the configured kind, not RFW mode, some configuration done. -/
def State.maxPayloadAllowed (s : State) (k : ModemKind) : Bool :=
  k == s.mp.modem && !s.lp.enable && (s.mp.rxValid || s.mp.txValid)

/-- `SetMaxPayloadLength(modem, max)` (R157). -/
def execSetMaxPayloadLength (modem max : Byte) (s : State) : Host.Outcome State Fault Refusal :=
  .next (s.ifInit respError fun s =>
    match modemOf modem with
    | some .fsk => if s.maxPayloadAllowed .fsk then (s.setMaxPayload .fsk max).respond respOk else s.respond respError
    | some .lora => if s.maxPayloadAllowed .lora then (s.setMaxPayload .lora max).respond respOk else s.respond respError
    | some .msk | some .bpsk | some .sigfoxTx | some .sigfoxRx | none => s.respond respUnsupported)

end Sys2Proof.Machine
end

