-- ==== Sys2Proof/Machine/TxRx.lean ====
section
/-! DEFINITION. The TX/RX State Machine's commands (`42_txrx_commands.md` R211 to R226): lifecycle, start commands, sensing and
measurement. -/

namespace Sys2Proof.Machine

/-! ## Lifecycle -/

/-- Every register but `Fault` at its reset value, then the two that `Init` sets (R211, R421; log 20 for the registers
whose reset value the spec does not give). The environment and the trace are not registers. -/
def State.initRegisters (s : State) (cbMask : Byte) : State :=
  { State.reset with
    initialised := true, cbMask := cbMask.setWidth 7, fault := s.fault, env := s.env, trace := s.trace }

/-- `Init(cbMask)` (R211). -/
def execInit (cbMask : Byte) (s : State) : Host.Outcome State Fault Refusal :=
  .next
    ((((((s.initRegisters cbMask).tmrInit .tx).tmrInit .rx).tmrInit .chunk).standby.ri
      (.setDioIrqParams maskNone)).respond respOk)

/-- `GetStatus()` (R218): accepted before `Init`. -/
def execGetStatus (s : State) : Host.Outcome State Fault Refusal :=
  .next (s.respond [radioCode s.radioState])

/-- `Sleep()` (R219): `Abort()` with `RI.SetSleep` in place of `RI.SetStandby`. -/
def execSleep (s : State) : Host.Outcome State Fault Refusal :=
  .next (s.ifInit respError fun s =>
    (((s.stopTimers.lpTransferReset.setIrqQ []).ri (.setSleep Config.sleepParams)).setRadio .idle).respond respOk)

/-- `Standby()` (R220). -/
def execStandby (s : State) : Host.Outcome State Fault Refusal :=
  .next (s.ifInit respError fun s => s.abort.respond respOk)

/-! ## Send (R212) -/

/-- The checks of `Send` after `Initialised`, in order: the first that fails decides the response (R212, R364 c). -/
def State.sendRefusal (s : State) (size : Byte) : Option (List Byte) :=
  if !s.mp.txValid then some respError
  else if s.mp.modem = .sigfoxRx then some respUnsupported
  else if s.lp.enable &&
      (decide (s.lp.maxLen.toNat < size.toNat) ||
        decide (radioBufSize < lenBytesOf s.lp.lenW + size.toNat + crcBytesOf s.lp.crcW) ||
        (s.lp.lenW == .w1 && decide (255 < size.toNat))) then some respError
  else if s.mp.modem == .sigfoxTx && decide (radioBufSize < size.toNat + 1) then some respError
  else none

/-- `MP.PayloadLen <- len`, the packet record built after it, and the bytes to ring offset 0 (R212). -/
def State.sendPacket (s : State) (len : Nat) (record : State → PktRecord) (bytes : List Byte) : State :=
  let s := s.setMp { s.mp with payloadLen := BitVec.ofNat 16 len }
  (s.ri (.setPacketParams (record s))).riWriteBuffer 0 bytes

/-- `PktBpsk` from the `MP` file (R150). -/
def State.buildPktBpsk (s : State) : PktRecord := .bpsk s.mp.payloadLen

/-- The RFW-mode case of `Send` (R212): one whole frame, taken whatever `MP.Modem` holds (log 17). -/
def State.sendRfw (s : State) (size : Byte) (data : List Byte) : State :=
  let f := s.lp.frameWhole data (size.setWidth 16)
  let s := ((s.setLp f.2).useRadioBuffer).sendPacket f.1.length State.buildPktFsk f.1
  s.setLp { s.lp with dir := .tx, phase := .lastChunk, longMode := false }

/-- The case of `Send` for the modem kind (R212, R343). `SigfoxRx` was refused before. -/
def State.sendBody (s : State) (size : Byte) (data : List Byte) : State :=
  if s.lp.enable then s.sendRfw size data
  else
    match s.mp.modem with
    | .lora => s.sendPacket size.toNat State.buildPktLora data
    | .fsk => s.sendPacket size.toNat State.buildPktFsk data
    | .msk => s.sendPacket size.toNat State.buildPktFsk data
    | .bpsk => s.sendPacket size.toNat State.buildPktBpsk data
    | .sigfoxTx => s.useRadioBuffer.sendPacket (size.toNat + 1) State.buildPktBpsk (bpskEncode data)
    | .sigfoxRx => s

/-- What an accepted `Send` does (R212). -/
def State.send (s : State) (size : Byte) (data : List Byte) : State :=
  let s := s.abortIfBusy.armIrq maskTx
  let s := (s.ri (.setSwitch s.mp.antSel .tx)).sendBody size data
  ((s.tmrArm .tx s.mp.txTimeout).ri (.setTx txNoTimeoutTicks)).setRadio .txRunning

/-- `Send(size, data)` (R212). -/
def execSend (size : Byte) (data : List Byte) (s : State) : Host.Outcome State Fault Refusal :=
  .next (s.ifInit respError fun s =>
    match s.sendRefusal size with
    | some r => s.respond r
    | none => (s.send size data).respond respOk)

/-! ## Rx, RxBoosted, StartCad, SetTxContinuousWave -/

/-- `RxStart(boosted, timeout)` (R214): in RFW mode the engine's receive start without long mode. -/
def State.rxStart (s : State) (boosted : Bool) (timeout : U32) : State :=
  if s.lp.enable then s.rfwRxStart false boosted timeout
  else (s.abortIfBusy.armIrq maskRx).rxLaunch boosted timeout

/-- `Rx(timeout)` (R214). -/
def execRx (timeout : U32) (s : State) : Host.Outcome State Fault Refusal :=
  .next (s.ifInit respError fun s =>
    if s.mp.rxValid then (s.rxStart false timeout).respond respOk else s.respond respError)

/-- `RxBoosted(timeout)` (R215). -/
def execRxBoosted (timeout : U32) (s : State) : Host.Outcome State Fault Refusal :=
  .next (s.ifInit respError fun s =>
    if s.mp.rxValid then (s.rxStart true timeout).respond respOk else s.respond respError)

/-- `StartCad()` (R216). -/
def execStartCad (s : State) : Host.Outcome State Fault Refusal :=
  .next (s.ifInit respError fun s =>
    let s := s.abortIfBusy.armIrq maskCad
    ((((s.ri (.setSwitch s.mp.antSel .rx)).ri .setCad).setRadio .cad).respond respOk))

/-- What an accepted `SetTxContinuousWave` does (R226). -/
def State.continuousWave (s : State) (freq : U32) (power : Byte) (seconds : U16) : State :=
  let s := (s.abortIfBusy.ri (.setRfFrequency freq)).setPower power
  let s := ((s.ri (.setSwitch s.mp.antSel .tx)).armIrq maskNone).ri .setTxContinuousWave
  (s.tmrArm .tx (seconds.setWidth 32 * 1000)).setRadio .txRunning

/-- `SetTxContinuousWave(freq, power, seconds)` (R226). -/
def execSetTxContinuousWave (freq : U32) (power : Byte) (seconds : U16) (s : State) :
    Host.Outcome State Fault Refusal :=
  .next (s.ifInit respError fun s => (s.continuousWave freq power seconds).respond respOk)

/-! ## IsChannelFree (R222) -/

/-- The dummy receive configuration of carrier sensing (R222, R9). -/
def senseConfig (rxBandwidth : U32) : RxConfig where
  modem := 0
  bandwidth := rxBandwidth
  datarate := csDatarate
  coderate := 0
  bandwidthAfc := rxBandwidth
  preambleLen := csPreambleLen
  symbTimeout := 0
  fixLen := false
  payloadLen := 0
  crcOn := false
  freqHopOn := false
  hopPeriod := 0
  iqInverted := false
  rxContinuous := true

/-- The polling history of this sensing: the next the environment has ready, or a free one (log 4). -/
def State.senseRun (s : State) : List (U32 × U16) := s.env.senseRuns.headD (Config.freeSense s.env.draws)

/-- Use up one polling history. -/
def State.skipSenseRun (s : State) : State :=
  { s with env := { s.env with senseRuns := s.env.senseRuns.drop 1, draws := s.env.draws + 1 } }

/-- The polling loop (R222) over its history of elapsed times and samples; after the last pair the elapsed time has
reached the bound (log 4). The comparison of the sample is signed and strict. -/
def State.senseLoop (t0 bound : U32) (thresh : U16) : List (U32 × U16) → State → Bool × State
  | [], s => (true, s.emit (.tmr (.getElapsedTime t0)))
  | p :: rest, s =>
    let s := s.emit (.tmr (.getElapsedTime t0))
    if bound.toNat ≤ p.1.toNat then (true, s)
    else if thresh.slt p.2 then (false, s.ri .getRssiInst)
    else State.senseLoop t0 bound thresh rest (s.ri .getRssiInst)

/-- The command up to the loop: dummy configuration, frequency, mask, switch, continuous receive (R222). -/
def State.senseSetup (s : State) (freq rxBandwidth : U32) : State :=
  let s := ((s.rxConfigFsk (senseConfig rxBandwidth)).ri (.setRfFrequency freq)).armIrq maskNone
  (s.ri (.setSwitch s.mp.antSel .rx)).ri (.setRx rxContinuousTicks)

/-- The whole sensing: its result and the state after it (R222). -/
def State.sense (s : State) (freq rxBandwidth : U32) (thresh : U16) (bound : U32) : Bool × State :=
  let s := s.senseSetup freq rxBandwidth
  let t0 := s.answer 0
  let r := State.senseLoop t0 bound thresh s.senseRun
    (((s.emit (.tmr .getCurrentTime)).skipAnswers 1).skipSenseRun)
  (r.1, r.2.standby)

/-- `IsChannelFree(freq, rxBandwidth, rssiThresh, maxCarrierSenseTime)` (R222). -/
def execIsChannelFree (freq rxBandwidth : U32) (rssiThresh : U16) (maxCarrierSenseTime : U32) (s : State) :
    Host.Outcome State Fault Refusal :=
  .next (s.ifInit (respBool false) fun s =>
    let r := s.sense freq rxBandwidth rssiThresh maxCarrierSenseTime
    r.2.respond (respBool r.1))

/-! ## Random, Rssi -/

/-- `Random()` (R223). -/
def execRandom (s : State) : Host.Outcome State Fault Refusal :=
  .next (s.ifInit (u32Bytes 0) fun s =>
    let s := s.abortIfBusy.armIrq maskNone
    ((s.ri .getRandom).skipAnswers 1).respond (u32Bytes (s.answer 0)))

/-- `Rssi(modem)` (R224): the operand is ignored. -/
def execRssi (_modem : Byte) (s : State) : Host.Outcome State Fault Refusal :=
  .next (s.ifInit (u16Bytes 0) fun s =>
    ((s.ri .getRssiInst).skipAnswers 1).respond (u16Bytes (s.answerU16 0)))

end Sys2Proof.Machine
end

