-- ==== Sys2Proof/Machine/Unsupported.lean ====
section
/-! DEFINITION. The five commands the block answers without doing them (`42_txrx_commands.md` R242 to R246): after the `Initialised`
check, a response and nothing else. -/

namespace Sys2Proof.Machine

/-- `SetRxDutyCycle(rxTime, sleepTime)` (R242). -/
def execSetRxDutyCycle (_rxTime _sleepTime : U32) (s : State) : Host.Outcome State Fault Refusal :=
  .next (s.ifInit respError fun s => s.respond respUnsupported)

/-- `TxPrbs()` (R243). -/
def execTxPrbs (s : State) : Host.Outcome State Fault Refusal :=
  .next (s.ifInit respError fun s => s.respond respUnsupported)

/-- `TxCw(power)` (R244). -/
def execTxCw (_power : Byte) (s : State) : Host.Outcome State Fault Refusal :=
  .next (s.ifInit respError fun s => s.respond respUnsupported)

/-- `LrFhssSetCfg(n, cfg)` (R245). -/
def execLrFhssSetCfg (_n : Byte) (_cfg : List Byte) (s : State) : Host.Outcome State Fault Refusal :=
  .next (s.ifInit respError fun s => s.respond respUnsupported)

/-- `LrFhssGetTimeOnAirInMs(n, cfg)` (R246): the value 0. -/
def execLrFhssGetTimeOnAirInMs (_n : Byte) (_cfg : List Byte) (s : State) : Host.Outcome State Fault Refusal :=
  .next (s.ifInit (u32Bytes 0) fun s => s.respond (u32Bytes 0))

end Sys2Proof.Machine
end

