-- ==== Sys2Proof/Machine/Dispatch.lean ====
section
/-! DEFINITION. One arm per row of the opcode table. -/

namespace Sys2Proof.Machine

/-- The meaning of an instruction. -/
def exec (i : Instr) (s : State) : Host.Outcome State Fault Refusal :=
  match i with
  | .init m => Sys2Proof.Machine.execInit m s
  | .getStatus => Sys2Proof.Machine.execGetStatus s
  | .setModem m => Sys2Proof.Machine.execSetModem m s
  | .setChannel f => Sys2Proof.Machine.execSetChannel f s
  | .isChannelFree f bw th t => Sys2Proof.Machine.execIsChannelFree f bw th t s
  | .random => Sys2Proof.Machine.execRandom s
  | .setRxConfig c => Sys2Proof.Machine.execSetRxConfig c s
  | .setTxConfig c => Sys2Proof.Machine.execSetTxConfig c s
  | .checkRfFrequency f => Sys2Proof.Machine.execCheckRfFrequency f s
  | .timeOnAir a => Sys2Proof.Machine.execTimeOnAir a s
  | .send n d => Sys2Proof.Machine.execSend n d s
  | .sleep => Sys2Proof.Machine.execSleep s
  | .standby => Sys2Proof.Machine.execStandby s
  | .rx t => Sys2Proof.Machine.execRx t s
  | .rxBoosted t => Sys2Proof.Machine.execRxBoosted t s
  | .startCad => Sys2Proof.Machine.execStartCad s
  | .setTxContinuousWave f p n => Sys2Proof.Machine.execSetTxContinuousWave f p n s
  | .rssi m => Sys2Proof.Machine.execRssi m s
  | .write a d => Sys2Proof.Machine.execWrite a d s
  | .read a => Sys2Proof.Machine.execRead a s
  | .writeRegisters a n d => Sys2Proof.Machine.execWriteRegisters a n d s
  | .readRegisters a n => Sys2Proof.Machine.execReadRegisters a n s
  | .setMaxPayloadLength m k => Sys2Proof.Machine.execSetMaxPayloadLength m k s
  | .setPublicNetwork e => Sys2Proof.Machine.execSetPublicNetwork e s
  | .getWakeupTime => Sys2Proof.Machine.execGetWakeupTime s
  | .irqProcess => Sys2Proof.Machine.execIrqProcess s
  | .setRxDutyCycle r t => Sys2Proof.Machine.execSetRxDutyCycle r t s
  | .txPrbs => Sys2Proof.Machine.execTxPrbs s
  | .txCw p => Sys2Proof.Machine.execTxCw p s
  | .setRxGenericConfig g c t => Sys2Proof.Machine.execSetRxGenericConfig g c t s
  | .setTxGenericConfig g p t => Sys2Proof.Machine.execSetTxGenericConfig g p t s
  | .transmitLongPacket n t c => Sys2Proof.Machine.execTransmitLongPacket n t c s
  | .receiveLongPacket b t c => Sys2Proof.Machine.execReceiveLongPacket b t c s
  | .lrFhssSetCfg n d => Sys2Proof.Machine.execLrFhssSetCfg n d s
  | .lrFhssGetTimeOnAirInMs n d => Sys2Proof.Machine.execLrFhssGetTimeOnAirInMs n d s
  | .irqTxDone => Sys2Proof.Machine.execIrqTxDone s
  | .irqRxDone => Sys2Proof.Machine.execIrqRxDone s
  | .irqPreambleDetected => Sys2Proof.Machine.execIrqPreambleDetected s
  | .irqSyncWordValid => Sys2Proof.Machine.execIrqSyncWordValid s
  | .irqHeaderValid => Sys2Proof.Machine.execIrqHeaderValid s
  | .irqHeaderError => Sys2Proof.Machine.execIrqHeaderError s
  | .irqCrcError => Sys2Proof.Machine.execIrqCrcError s
  | .irqCadDone d => Sys2Proof.Machine.execIrqCadDone d s
  | .irqTimeout => Sys2Proof.Machine.execIrqTimeout s
  | .irqLrFhssHop => Sys2Proof.Machine.execIrqLrFhssHop s
  | .irqReserved b => Sys2Proof.Machine.execIrqReserved b s
  | .expireTxTimer => Sys2Proof.Machine.execExpireTxTimer s
  | .expireRxTimer => Sys2Proof.Machine.execExpireRxTimer s
  | .expireChunkTimer => Sys2Proof.Machine.execExpireChunkTimer s

end Sys2Proof.Machine
end

