-- ==== Sys2Proof/Machine/Ports.lean ====
section
/-! DEFINITION. How an input reaches the block (`00_scope.md` R6): taking what the environment presents next, and what a step
does with it at each port. -/

namespace Sys2Proof.Machine

/-- Present an input before all that the environment has ready. -/
def State.presentInput (s : State) (inp : Input) : State :=
  { s with env := { s.env with inputs := inp :: s.env.inputs } }

/-- The input presented next, `none` when the environment presents nothing (the block waits, R420), and the state with it
taken: the first the environment has ready, or a free one when it has none (log 2). -/
def State.takeInput (s : State) : Option Input × State :=
  match s.env.inputs with
  | inp :: rest => (some inp, { s with env := { s.env with inputs := rest } })
  | [] => (Config.freeInput s.env.draws, { s with env := { s.env with draws := s.env.draws + 1 } })

/-- One step on a presented input (R6). The dispatch step is enabled only while the queue holds an event; on an empty
queue it does nothing (R353, log 5). -/
def State.stepInput (s : State) (inp : Input) : Host.Outcome State Fault Refusal :=
  match inp with
  | .command packet =>
    match decodeCommand packet with
    | .ok i => exec i s
    | .error _ => .next s.illegalCommand
  | .irq vector => .next (s.raiseIrq vector)
  | .dispatch =>
    match s.irqQ with
    | [] => .next s
    | e :: q => exec (instrOfEvent e) (s.setIrqQ q)
  | .timer line =>
    match decodeTimer line with
    | .ok i => exec i s
    | .error _ => .next s.badTimerLine

/-- The queued event an instruction dispatches, if it is one of the ten event rows. -/
def eventOfInstr : Instr → Option IrqEvent
  | .irqTxDone => some .txDone
  | .irqRxDone => some .rxDone
  | .irqPreambleDetected => some .preambleDetected
  | .irqSyncWordValid => some .syncWordValid
  | .irqHeaderValid => some .headerValid
  | .irqHeaderError => some .headerError
  | .irqCrcError => some .crcError
  | .irqCadDone d => some (.cadDone d)
  | .irqTimeout => some .timeout
  | .irqLrFhssHop => some .lrFhssHop
  | .init _ | .getStatus | .setModem _ | .setChannel _ | .isChannelFree _ _ _ _ | .random | .setRxConfig _
  | .setTxConfig _ | .checkRfFrequency _ | .timeOnAir _ | .send _ _ | .sleep | .standby | .rx _ | .rxBoosted _
  | .startCad | .setTxContinuousWave _ _ _ | .rssi _ | .write _ _ | .read _ | .writeRegisters _ _ _
  | .readRegisters _ _ | .setMaxPayloadLength _ _ | .setPublicNetwork _ | .getWakeupTime | .irqProcess
  | .setRxDutyCycle _ _ | .txPrbs | .txCw _ | .setRxGenericConfig _ _ _ | .setTxGenericConfig _ _ _
  | .transmitLongPacket _ _ _ | .receiveLongPacket _ _ _ | .lrFhssSetCfg _ _ | .lrFhssGetTimeOnAirInMs _ _
  | .irqReserved _ | .expireTxTimer | .expireRxTimer | .expireChunkTimer => none

/-- Present an instruction so that the very next step runs it: a queued event with the turn of the dispatch step, or its
input at its port. -/
def State.presentInstr (s : State) (inp : Input) (i : Instr) : State :=
  match eventOfInstr i with
  | some e => (s.setIrqQ (e :: s.irqQ)).presentInput .dispatch
  | none => s.presentInput inp

end Sys2Proof.Machine
end

