-- ==== Sys2Proof/Machine/Step.lean ====
section
/-! DEFINITION. One step of the block, and how the host places an instruction before it. -/

namespace Sys2Proof.Machine

/-- One step (R6): the block takes what the environment presents next; where nothing is presented it waits. -/
def step (s : State) : Host.Outcome State Fault Refusal :=
  match s.takeInput with
  | (some inp, s') => s'.stepInput inp
  | (none, s') => .next s'

/-- `s` with the instruction of a table word presented next (log 2, log 11); a word that stands for no instruction is
presented as a packet. -/
def State.withFetchWord (s : State) (nbits w : Nat) : State :=
  match tableInput nbits w with
  | some (inp, i) => s.presentInstr inp i
  | none => s.presentInput (.command (tablePacket nbits w))

end Sys2Proof.Machine
end

