-- ==== Sys2Proof/Safety.lean ====
section
/-! DEFINITION. The terms claims are stated in: the invariant of the block's registers, what the outputs of a step are made of,
what a command answers before `Init`, and what the bytes and callbacks of a transfer amount to. -/

namespace Sys2Proof.Machine

/-! ## The invariant -/

/-- The bit of an event in a vector and in `IrqMaskShadow` (R351). -/
def eventBit : IrqEvent → Nat
  | .txDone => 0
  | .rxDone => 1
  | .preambleDetected => 2
  | .syncWordValid => 3
  | .headerValid => 4
  | .headerError => 5
  | .crcError => 6
  | .cadDone _ => 7
  | .timeout => 9
  | .lrFhssHop => 14

/-- The queue holds at most `IRQ_Q_DEPTH` events (R28), each enabled by the mask, which is one of the five of R213. -/
def State.QueueInv (s : State) : Prop :=
  s.irqQ.length ≤ irqQDepth ∧ s.irqMaskShadow ∈ [maskNone, maskTx, maskRx, maskRfwRx, maskCad] ∧
  ∀ e ∈ s.irqQ, s.irqMaskShadow.getLsbD (eventBit e) = true

/-- The invariants R36 and R38 give the `MP` file, and the range R35 gives `MP.SyncWordLen`. -/
def ModemParams.Inv (m : ModemParams) : Prop :=
  m.fixLen = (m.lengthMode == .fixed) ∧ m.crcOn = (m.crcType != .off) ∧ m.syncWordLen.toNat ≤ 8

/-- In RFW mode the engine's configuration is the one `RfwInit` takes from the `MP` file (R271), within the ranges of R155
and R156. -/
def State.RfwInv (s : State) : Prop :=
  s.lp.enable = true →
    (s.mp.whiteMode = .ibmSw ∨ s.mp.lengthMode = .var2) ∧ (s.mp.rxValid = true ∨ s.mp.txValid = true) ∧
    s.lp.lenW = lenWidthOf s.mp.lengthMode ∧ s.lp.crcW = crcWidthOf s.mp.crcType ∧ s.lp.crcType = s.mp.crcType ∧
    s.lp.whiteOn = (s.mp.whiteMode != .off) ∧ s.lp.maxLen = s.mp.maxPayloadLen ∧
    s.lp.fixedLen = s.mp.maxPayloadLen ∧ s.lp.bitrate = s.mp.datarate ∧
    s.lp.crcType ≠ .other ∧ s.lp.bitrate ≠ 0 ∧
    lenBytesOf s.lp.lenW + s.lp.maxLen.toNat + crcBytesOf s.lp.crcW ≤ 65535 ∧
    (s.lp.lenW = .w1 → s.lp.maxLen.toNat ≤ 255)

/-- The sequencing state (R24, R46, R49, R299): phase and direction agree, a transfer runs only in RFW mode and in its own
`RadioState`, and the chunk callback is on exactly in long mode. -/
def State.SequenceInv (s : State) : Prop :=
  (s.lp.phase = .idle ↔ s.lp.dir = .none) ∧ (s.lp.dir = .tx → s.radioState = .txRunning) ∧
  (s.lp.dir = .rx → s.radioState = .rxRunning) ∧ (s.lp.dir ≠ .none → s.lp.enable = true) ∧
  (s.radioState = .rxRunning → s.lp.enable = true → s.lp.dir = .rx) ∧
  s.lp.chunkCb = s.lp.longMode ∧ (s.lp.dir = .none → s.lp.longMode = false)

/-- The frame bytes written so far in a transmit (R281): header, payload, and the trailer with the last payload byte. -/
def LongPacket.bytesSent (l : LongPacket) : Nat :=
  lenBytesOf l.lenW + (l.payloadLen.toNat - l.remaining.toNat) + (if l.phase = .lastChunk then crcBytesOf l.crcW else 0)

/-- The frame bytes read so far in a receive (R290, R292). -/
def LongPacket.bytesRead (l : LongPacket) : Nat := lenBytesOf l.lenW + (l.payloadLen.toNat - l.remaining.toNat)

/-- The working registers of a transmit transfer (R47, R48, R299). -/
def LongPacket.TxInv (l : LongPacket) : Prop :=
  l.dir = .tx →
    l.phase ≠ .headerPending ∧ (l.phase = .streaming → l.remaining ≠ 0) ∧ (l.phase = .lastChunk → l.remaining = 0) ∧
    l.remaining.toNat ≤ l.payloadLen.toNat ∧ l.payloadLen.toNat ≤ l.maxLen.toNat ∧
    l.total.toNat = lenBytesOf l.lenW + l.payloadLen.toNat + crcBytesOf l.crcW ∧
    l.bufOffset = BitVec.ofNat 8 l.bytesSent

/-- The working registers of a receive transfer (R47, R48, R291, R292, R299). -/
def LongPacket.RxInv (l : LongPacket) : Prop :=
  l.dir = .rx →
    l.rxPayloadOffset.toNat < radioBufSize ∧ (l.phase = .streaming → chunkLen < l.remaining.toNat) ∧
    (l.phase = .lastChunk → l.remaining.toNat ≤ chunkLen) ∧
    (l.phase ≠ .headerPending →
      l.remaining.toNat ≤ l.payloadLen.toNat ∧ l.payloadLen.toNat ≤ l.maxLen.toNat ∧
      l.total.toNat = lenBytesOf l.lenW + l.payloadLen.toNat + crcBytesOf l.crcW ∧
      l.bufOffset = BitVec.ofNat 8 l.bytesRead)

/-- A timer is armed only while the operation it bounds runs: `TxTimer` exactly in `TxRunning`, `RxTimer` only in
`RxRunning`, `ChunkTimer` exactly while a chunk is due (R29, R401, R438). -/
def State.TimerInv (s : State) : Prop :=
  (s.txTimer.armed = true ↔ s.radioState = .txRunning) ∧ (s.rxTimer.armed = true → s.radioState = .rxRunning) ∧
  (s.chunkTimer.armed = true ↔ s.lp.phase = .streaming ∨ (s.lp.dir = .rx ∧ s.lp.phase = .lastChunk))

/-- The sizes of the staging buffers (R50). -/
def State.BufferInv (s : State) : Prop :=
  s.rxStage.length = radioBufSize ∧ s.radioBuffer.length = radioBufSize + 1

/-- Before `Init` nothing is configured, enabled or running (R23, R420). -/
def State.PreInitInv (s : State) : Prop :=
  s.initialised = false →
    s.radioState = .idle ∧ s.irqMaskShadow = 0 ∧ s.irqQ = [] ∧ s.mp.rxValid = false ∧ s.mp.txValid = false ∧
    s.lp.enable = false

/-- The invariant every step keeps. -/
def State.Inv (s : State) : Prop :=
  s.QueueInv ∧ s.mp.Inv ∧ s.RfwInv ∧ s.SequenceInv ∧ s.lp.TxInv ∧ s.lp.RxInv ∧ s.TimerInv ∧ s.BufferInv ∧ s.PreInitInv

/-! ## Outputs -/

/-- A Register Interface or Timer Service operation. -/
def Output.isOperation : Output → Bool
  | .ri _ => true
  | .tmr _ => true
  | .cb _ => false
  | .response _ => false

/-- A callback that ends an attempt (R390); `RxDone` is one in the model whatever `MP.RxContinuous` holds. -/
def Output.isTerminal : Output → Bool
  | .cb .txDone => true
  | .cb .txTimeout => true
  | .cb (.rxDone _ _ _ _) => true
  | .cb .rxTimeout => true
  | .cb .rxError => true
  | .cb (.cadDone _) => true
  | .cb (.fhssChangeChannel _) => false
  | .cb (.getNextChunk _) => false
  | .cb (.storeChunk _ _) => false
  | .ri _ => false
  | .tmr _ => false
  | .response _ => false

/-- A modulation or packet record pushed to the Register Interface (R81). -/
def Output.isRecord : Output → Bool
  | .ri (.setModulationParams _) => true
  | .ri (.setPacketParams _) => true
  | .ri _ => false
  | .tmr _ => false
  | .cb _ => false
  | .response _ => false

/-- The bytes all `RI.WriteBuffer` operations of a trace wrote, in order (R284). -/
def ringBytes : List Output → List Byte
  | [] => []
  | .ri (.writeBuffer _ buf _) :: os => buf ++ ringBytes os
  | _ :: os => ringBytes os

/-- The bytes all `CB.StoreChunk` callbacks of a trace delivered, in order (R297). -/
def storedBytes : List Output → List Byte
  | [] => []
  | .cb (.storeChunk chunk _) :: os => chunk ++ storedBytes os
  | _ :: os => storedBytes os

/-! ## What a step leaves, in the terms of the rules -/

/-- `STATUS_OK` as a response (R102). -/
def statusOk : List Byte := [0x00, 0x00, 0x00, 0x00]

/-- `STATUS_ERROR` = -1 as a response (R102). -/
def statusError : List Byte := [0xFF, 0xFF, 0xFF, 0xFF]

/-- `STATUS_UNSUPPORTED_FEATURE` = -2 as a response (R102). -/
def statusUnsupported : List Byte := [0xFE, 0xFF, 0xFF, 0xFF]

/-- `s` with outputs added to the trace, in order, and nothing else changed. -/
def State.output (s : State) (os : List Output) : State := { s with trace := s.trace ++ os }

/-- `s` after a command refused before `Init`: `Fault` bit 1 (`NotInit`) set and the refusal answered (R23, R350). -/
def State.notInit (s : State) (response : List Byte) : State :=
  { s with fault := s.fault ||| 0x2, trace := s.trace ++ [.response response] }

/-- The engine's registers after `LpTransferReset()`, as R275 lists them. -/
def LongPacket.cleared (l : LongPacket) : LongPacket :=
  { l with
    phase := .idle, dir := .none, longMode := false, chunkCb := false, total := 0, remaining := 0, payloadLen := 0,
    bufOffset := 0, rxPayloadOffset := 0 }

/-- `RI.SetStandby(STANDBY_MODE)` as an output. -/
def standbyOutput : Output := .ri (.setStandby Config.standbyMode)

/-- `s` after `Abort()`, every register and output as R12 lists them. -/
def State.aborted (s : State) : State :=
  { s with
    radioState := .idle
    irqQ := []
    txTimer := ⟨false, s.txTimer.value⟩
    rxTimer := ⟨false, s.rxTimer.value⟩
    chunkTimer := ⟨false, s.chunkTimer.value⟩
    lp := s.lp.cleared
    trace := s.trace ++ [.tmr (.stop .tx), .tmr (.stop .rx), .tmr (.stop .chunk), standbyOutput] }

/-- The state a start command works from: outside `Idle` the running operation is aborted first (R210). -/
def State.fromIdle (s : State) : State := if s.radioState = .idle then s else s.aborted

/-- Every register R421 gives a reset value, but `Initialised`, `CbMask` and `Fault`, holds it. -/
def State.AtReset (s : State) : Prop :=
  s.radioState = .idle ∧ s.irqMaskShadow = 0 ∧ s.irqQ = [] ∧ s.txTimer.armed = false ∧ s.rxTimer.armed = false ∧
  s.chunkTimer.armed = false ∧ s.mp.modem = .fsk ∧ s.mp.bw = 0 ∧ s.mp.fdev = 0 ∧ s.mp.payloadLen = 255 ∧
  s.mp.maxPayloadLen = 255 ∧ s.mp.publicNetwork = false ∧ s.mp.rxContinuous = false ∧ s.mp.symbTimeout = 0 ∧
  s.mp.antSel = 0 ∧ s.mp.rxValid = false ∧ s.mp.txValid = false ∧ s.lp.enable = false ∧ s.lp.phase = .idle ∧
  s.lp.dir = .none ∧ s.lp.longMode = false ∧ s.lp.chunkCb = false

/-- The callback, if the application supplied it: bit `b` of `CbMask` (R25). -/
def State.supplied (s : State) (b : Nat) (c : Callback) : List Output :=
  if s.cbMask.getLsbD b then [.cb c] else []

/-! ## Records and frames -/

/-- `RI.SetPacketParams` of the FSK record outside RFW mode, with a packet length (R150). -/
def fskPacket (m : ModemParams) (len : U16) : Output :=
  .ri (.setPacketParams (.fsk m.preambleLen m.syncWordLen m.syncWord m.fixLen len m.crcType m.crcPoly m.crcSeed
    (m.whiteMode == .hw) (m.whiteSeed.setWidth 16)))

/-- `RI.SetPacketParams` of the FSK record in RFW mode, where the block frames: fixed length, no CRC, no whitening (R150). -/
def rfwPacket (m : ModemParams) (len : U16) : Output :=
  .ri (.setPacketParams (.fsk m.preambleLen m.syncWordLen m.syncWord true len .off m.crcPoly m.crcSeed false
    (m.whiteSeed.setWidth 16)))

/-- `RI.WriteBuffer(offset, bytes, len(bytes))`, or nothing for no bytes (R74). -/
def ringWrite (offset : Byte) (bytes : List Byte) : List Output :=
  if bytes = [] then [] else [.ri (.writeBuffer offset bytes (BitVec.ofNat 8 bytes.length))]

/-- The CRC register after a run from `r` over plain bytes: unchanged with no CRC field (R274). -/
def crcOver (l : LongPacket) (r : U16) (bs : List Byte) : U16 := if l.crcW = .w0 then r else crcBytes l.crcPoly r bs

/-- The trailer of a CRC register, most significant byte first, complemented for `Ccitt2`; none with no CRC field
(R274, R277). -/
def trailerOf (l : LongPacket) (crc : U16) : List Byte :=
  if l.crcW = .w0 then []
  else
    let c := if l.crcType = .ccitt2 then ~~~crc else crc
    [c.extractLsb' 8 8, c.extractLsb' 0 8]

/-- Bytes whitened from register `r`, and the register after them: unchanged with whitening off (R273). -/
def whitened (l : LongPacket) (r : BitVec 9) (bs : List Byte) : List Byte × BitVec 9 :=
  if l.whiteOn then whiteBytes r bs else (bs, r)

/-- The frame of a payload before whitening: length, payload, CRC over both (R277). -/
def plainFrame (l : LongPacket) (size : U16) (payload : List Byte) : List Byte :=
  lenBytes l.lenW size ++ payload ++ trailerOf l (crcOver l l.crcSeed (lenBytes l.lenW size ++ payload))

/-- The frame of a payload on the air (R277). -/
def frameBytes (l : LongPacket) (size : U16) (payload : List Byte) : List Byte :=
  (whitened l l.whiteSeed (plainFrame l size payload)).1

/-- The next `n` answers of the environment as bytes. -/
def State.nextBytes (s : State) (n : Nat) : List Byte := (List.range n).map fun i => (s.answer i).setWidth 8

/-! ## Ends and pieces of an operation -/

/-- What every receive start ends with: the timer if there is a timeout, the antenna switch, the mode operation (R214). -/
def receiveOutputs (antSel : Byte) (boosted : Bool) (timeout : U32) : List Output :=
  (if timeout = 0 then [] else [.tmr (.setValue .rx timeout), .tmr (.start .rx)]) ++
  [.ri (.setSwitch antSel .rx),
    .ri (if boosted then .setRxBoosted (if timeout = 0 then 0xFFFFFF else timeout <<< 6)
      else .setRx (if timeout = 0 then 0xFFFFFF else timeout <<< 6))]

/-- `s` after a transmission ended with callback `c`, `CbMask` bit `b` (R356, R358). -/
def State.transmitEnded (s : State) (b : Nat) (c : Callback) : State :=
  { s with
    radioState := .idle
    txTimer := ⟨false, s.txTimer.value⟩
    chunkTimer := ⟨false, s.chunkTimer.value⟩
    lp := s.lp.cleared
    trace := s.trace ++ [.tmr (.stop .tx), .tmr (.stop .chunk), standbyOutput] ++ s.supplied b c }

/-- `s` after a reception ended with callback `c`, `CbMask` bit `b`, by a timeout or by the engine (R357, R294, R295). -/
def State.receiveEnded (s : State) (b : Nat) (c : Callback) : State :=
  { s with
    radioState := .idle
    rxTimer := ⟨false, s.rxTimer.value⟩
    chunkTimer := ⟨false, s.chunkTimer.value⟩
    lp := s.lp.cleared
    trace := s.trace ++ [.tmr (.stop .rx), .tmr (.stop .chunk), standbyOutput] ++ s.supplied b c }

/-- `s` after the engine received a whole packet (R293): the payload is delivered here only outside long mode. -/
def State.receiveDone (s : State) : State :=
  { s.skipAnswers 3 with
    radioState := .idle
    rxTimer := ⟨false, s.rxTimer.value⟩
    chunkTimer := ⟨false, s.chunkTimer.value⟩
    lp := s.lp.cleared
    trace := s.trace ++ [.tmr (.stop .rx), .tmr (.stop .chunk), standbyOutput, .ri .getPacketStatus] ++
      s.supplied 2 (.rxDone (if s.lp.longMode then [] else s.rxStage.take s.lp.payloadLen.toNat) s.lp.payloadLen
        ((s.answer 0).setWidth 16) ((s.answer 1).setWidth 8)) }

/-- `s` with the next receive chunk scheduled (R291). -/
def State.chunkScheduled (s : State) : State :=
  let more := decide (128 < s.lp.remaining.toNat)
  let bytes := if more then 128 else s.lp.remaining.toNat + crcBytesOf s.lp.crcW
  { s with
    lp := { s.lp with phase := if more then .streaming else .lastChunk }
    chunkTimer := ⟨true, lpChunkMs bytes s.lp.bitrate⟩
    trace := s.trace ++ [.tmr (.setValue .chunk (lpChunkMs bytes s.lp.bitrate)), .tmr (.start .chunk)] }

/-! ## Commands -/

/-- The response of a command refused before `Init`: the zero value of its result type, or `STATUS_ERROR` (R23, R102); `none`
for the five commands accepted before `Init` and for the inputs that are no commands. -/
def notInitResponse : Instr → Option (List Byte)
  | .isChannelFree _ _ _ _ => some [0]
  | .random => some [0, 0, 0, 0]
  | .rssi _ => some [0, 0]
  | .read _ => some [0]
  | .readRegisters _ n => some (List.replicate n.toNat 0)
  | .lrFhssGetTimeOnAirInMs _ _ => some [0, 0, 0, 0]
  | .setModem _ | .setChannel _ | .setRxConfig _ | .setTxConfig _ | .send _ _ | .sleep | .standby | .rx _
  | .rxBoosted _ | .startCad | .setTxContinuousWave _ _ _ | .write _ _ | .writeRegisters _ _ _
  | .setMaxPayloadLength _ _ | .setPublicNetwork _ | .irqProcess | .setRxDutyCycle _ _ | .txPrbs | .txCw _
  | .setRxGenericConfig _ _ _ | .setTxGenericConfig _ _ _ | .transmitLongPacket _ _ _ | .receiveLongPacket _ _ _
  | .lrFhssSetCfg _ _ => some statusError
  | .init _ | .getStatus | .timeOnAir _ | .checkRfFrequency _ | .getWakeupTime => none
  | .irqTxDone | .irqRxDone | .irqPreambleDetected | .irqSyncWordValid | .irqHeaderValid | .irqHeaderError
  | .irqCrcError | .irqCadDone _ | .irqTimeout | .irqLrFhssHop | .irqReserved _ | .expireTxTimer | .expireRxTimer
  | .expireChunkTimer => none

/-- The instruction is a command (R104), not an event, reserved bits or an expiry. -/
def isCommand (i : Instr) : Bool :=
  (notInitResponse i).isSome || match i with
    | .init _ | .getStatus | .timeOnAir _ | .checkRfFrequency _ | .getWakeupTime => true
    | _ => false

/-- The rows of the transition table of R210: the values an input can move `RadioState` to from a given one. -/
def radioTargets (r : RadioState) : Instr → List RadioState
  | .init _ | .standby | .sleep | .isChannelFree _ _ _ _ | .random | .setRxConfig _ | .setTxConfig _
  | .setRxGenericConfig _ _ _ | .setTxGenericConfig _ _ _ => [.idle]
  | .send _ _ | .transmitLongPacket _ _ _ | .setTxContinuousWave _ _ _ => [.txRunning]
  | .rx _ | .rxBoosted _ | .receiveLongPacket _ _ _ => [.rxRunning]
  | .startCad => [.cad]
  | .irqTxDone | .expireTxTimer => if r = .txRunning then [.idle] else []
  | .irqRxDone | .irqCrcError | .irqHeaderError | .irqSyncWordValid | .expireRxTimer | .expireChunkTimer =>
    if r = .rxRunning then [.idle] else []
  | .irqTimeout => if r = .txRunning ∨ r = .rxRunning then [.idle] else []
  | .irqCadDone _ => if r = .cad then [.idle] else []
  | .irqProcess => [.idle]
  | .getStatus | .setModem _ | .setChannel _ | .checkRfFrequency _ | .timeOnAir _ | .rssi _ | .write _ _ | .read _
  | .writeRegisters _ _ _ | .readRegisters _ _ | .setMaxPayloadLength _ _ | .setPublicNetwork _ | .getWakeupTime
  | .setRxDutyCycle _ _ | .txPrbs | .txCw _ | .lrFhssSetCfg _ _ | .lrFhssGetTimeOnAirInMs _ _
  | .irqPreambleDetected | .irqHeaderValid | .irqLrFhssHop | .irqReserved _ => []

/-- The commands that write `IrqMaskShadow`: the nine of R27, and `Init`, which restores its reset value (R211). -/
def writesIrqMask : Instr → Bool
  | .send _ _ | .rx _ | .rxBoosted _ | .startCad | .isChannelFree _ _ _ _ | .random | .setTxContinuousWave _ _ _
  | .transmitLongPacket _ _ _ | .receiveLongPacket _ _ _ | .init _ => true
  | _ => false

/-- The inputs that run the whitening or the CRC unit: the transfers of R276, the dispatch command that may dispatch a
sync word, and `Init`. -/
def writesStreamRegisters : Instr → Bool
  | .send _ _ | .transmitLongPacket _ _ _ | .irqSyncWordValid | .irqProcess | .expireChunkTimer | .init _ => true
  | _ => false

/-- The commands that write the `MP` file (R20, with the packet length of R280 and R289 and the power of R226). -/
def writesModemParams : Instr → Bool
  | .init _ | .setModem _ | .setPublicNetwork _ | .setMaxPayloadLength _ _ | .setRxConfig _ | .setTxConfig _
  | .setRxGenericConfig _ _ _ | .setTxGenericConfig _ _ _ | .isChannelFree _ _ _ _ | .send _ _ | .rx _ | .rxBoosted _
  | .transmitLongPacket _ _ _ | .receiveLongPacket _ _ _ | .setTxContinuousWave _ _ _ => true
  | _ => false

/-- The commands that write the engine's configuration (R44, R271, R272). -/
def writesEngineConfig : Instr → Bool
  | .init _ | .setRxConfig _ | .setTxConfig _ | .setRxGenericConfig _ _ _ | .setTxGenericConfig _ _ _
  | .isChannelFree _ _ _ _ => true
  | _ => false

/-- The configuration part of the engine's registers (R44): the rest set to fixed values. -/
def LongPacket.configPart (l : LongPacket) : LongPacket := { l.cleared with whiteLfsr := 0, crcLfsr := 0 }

/-- The inputs that write `RxStage`: the receive chunk rule (R292) and `Init`. -/
def writesRxStage : Instr → Bool
  | .expireChunkTimer | .init _ => true
  | _ => false

/-- The inputs that use `RadioBuffer` (R50): the transmissions that stage bytes in it, and `Init`. -/
def usesRadioBuffer : Instr → Bool
  | .send _ _ | .transmitLongPacket _ _ _ | .expireChunkTimer | .init _ => true
  | _ => false

/-! ## Ranges of the generic configuration record (R155) -/

/-- The record selects RFW mode: `whiteMode` is `IbmSw` or `lengthMode` is `Var2`. -/
def selectsRfw (g : Gcfg) : Prop := g.whiteMode = 2 ∨ g.lengthMode = 2

/-- `LenW + maxPayloadLen + CrcW` of the record. -/
def longestFrame (g : Gcfg) : Nat :=
  g.lengthMode.toNat + g.maxPayloadLen.toNat + (if g.crcType = 0 then 0 else 2)

/-- The ranges of R155. -/
def gcfgInRange (g : Gcfg) : Prop :=
  g.bitrate ≠ 0 ∧ g.syncWordLen.toNat ≤ 8 ∧ g.lengthMode.toNat ≤ 2 ∧ g.crcType.toNat ≤ 3 ∧ g.whiteMode.toNat ≤ 2 ∧
  g.whiteSeed.toNat < 512 ∧ (selectsRfw g → g.crcType ≠ 3) ∧ (¬ selectsRfw g → g.maxPayloadLen.toNat ≤ 255) ∧
  (selectsRfw g → longestFrame g ≤ 65535) ∧ (selectsRfw g → g.lengthMode = 1 → g.maxPayloadLen.toNat ≤ 255)

/-! ## Bits and events -/

/-- Bit position `j` of a byte string: bit `7 - (j mod 8)` of byte `j div 8` (R340). -/
def bitAt (x : List Byte) (j : Nat) : Bool := (x.getD (j / 8) 0).getLsbD (7 - j % 8)

/-- The events of a filtered vector in the order of R352 and R364 (a). -/
def priorityEvents (w : U16) : List IrqEvent :=
  [IrqEvent.crcError, .headerError, .timeout, .txDone, .rxDone, .cadDone (w.getLsbD 8), .syncWordValid, .preambleDetected,
    .headerValid, .lrFhssHop].filter fun e => w.getLsbD (eventBit e)

/-! ## Transfers -/

/-- The state after an instruction that answers a next state. -/
def State.after (s : State) (i : Instr) : State :=
  match exec i s with
  | .next t => t
  | .fault _ => s
  | .refused _ => s

/-- The state after `k` expiries of `ChunkTimer` in a row. -/
def State.afterExpiries : Nat → State → State
  | 0, s => s
  | k + 1, s => State.afterExpiries k (s.after .expireChunkTimer)

end Sys2Proof.Machine
end

