-- ==== Sys2Proof/Certificates/Slice0/Obligations.lean ====
section
/-! DEFINITION. The statements for the provers. Results are written out as the rules give them: the trace's new outputs in order and
every register that changes; a register not written in a record update is unchanged. -/

section

open Sys2Proof Sys2Proof.Machine

/-! ## Reset, invariant, totality -/

/-- R421: every register with a specified reset value holds it. -/
def Obligations.ResetHoldsTheSpecifiedValues : Prop :=
  State.reset.initialised = false ∧ State.reset.cbMask = 0 ∧ State.reset.fault = 0 ∧ State.reset.AtReset

/-- The invariant holds after reset; on the unspecified registers of R36, R38 and R35 it holds of the model's named values
(log 1). -/
def Obligations.InvariantHoldsAtReset : Prop := State.reset.Inv

/-- Every step keeps the invariant: R28, R36, R38, R46, R299, R213, R271, R401. -/
def Obligations.EveryStepKeepsTheInvariant : Prop := ∀ s t : State, s.Inv → step s = .next t → t.Inv

/-- No instruction and no step stops: a raised fault goes on (R350), an unexpected event is dropped (R353). -/
def Obligations.EveryInstructionCompletes : Prop :=
  (∀ (i : Instr) (s : State), ∃ t, exec i s = .next t) ∧ ∀ s : State, ∃ t, step s = .next t

/-- R26, R23, R25, R54: a fault bit, once set, stays; only `Init` writes `Initialised` and `CbMask`; only `Init` clears
`MP.RxValid` and `MP.TxValid`. -/
def Obligations.FaultInitialisedCbMaskAndValidBitsPersist : Prop :=
  (∀ s t : State, step s = .next t → s.fault &&& t.fault = s.fault ∧ (s.initialised = true → t.initialised = true)) ∧
  ∀ (i : Instr) (s t : State), (∀ m, i ≠ .init m) → exec i s = .next t →
    t.initialised = s.initialised ∧ t.cbMask = s.cbMask ∧ (s.mp.rxValid = true → t.mp.rxValid = true) ∧
    (s.mp.txValid = true → t.mp.txValid = true)

/-! ## Outputs -/

/-- R85, R102, R83, R391: a step only appends to the trace; a command step appends exactly one response, last, and no
other step appends any; no step emits `RI.GetOperatingMode` or `CB.FhssChangeChannel`. -/
def Obligations.StepsAppendAndOnlyACommandAnswersOnceAtTheEnd : Prop :=
  ∀ (s t : State) (inp : Input) (rest : List Input), s.env.inputs = inp :: rest → step s = .next t →
    ∃ os, t.trace = s.trace ++ os ∧
      (∀ o ∈ os, o ≠ .ri .getOperatingMode ∧ ∀ k, o ≠ .cb (.fhssChangeChannel k)) ∧
      match inp with
      | .command _ => ∃ pre r, os = pre ++ [.response r] ∧ ∀ o ∈ pre, ∀ p, o ≠ .response p
      | .irq _ | .dispatch | .timer _ => ∀ o ∈ os, ∀ p, o ≠ .response p

/-- R354: a dispatch emits its operations first and at most one callback, last. -/
def Obligations.DispatchEmitsOperationsThenAtMostOneCallback : Prop :=
  ∀ (e : IrqEvent) (s : State), ∃ t ops cbs, exec (instrOfEvent e) s = .next t ∧ t.trace = s.trace ++ ops ++ cbs ∧
    (∀ o ∈ ops, o.isOperation = true) ∧ cbs.length ≤ 1 ∧ ∀ o ∈ cbs, o.isTerminal = true

/-- R217 (a): a step emits at most one terminal callback, only from outside `Idle`, and it leaves the block in `Idle` or in a
continuous reception; a command but `IrqProcess` emits none. -/
def Obligations.TerminalCallbacksEndARunningOperation : Prop :=
  (∀ s t : State, step s = .next t →
    ∃ os, t.trace = s.trace ++ os ∧ (os.filter Output.isTerminal).length ≤ 1 ∧
      (os.filter Output.isTerminal ≠ [] →
        s.radioState ≠ .idle ∧ (t.radioState = .idle ∨ (t.radioState = .rxRunning ∧ s.mp.rxContinuous = true)))) ∧
  ∀ (i : Instr) (s t : State), isCommand i = true → i ≠ .irqProcess → exec i s = .next t →
    ∃ os, t.trace = s.trace ++ os ∧ os.filter Output.isTerminal = []

/-! ## Ports, decoding, encoding -/

/-- R23, R102: before `Init` a command raises `NotInit` and answers its refusal, and nothing else changes. -/
def Obligations.CommandsBeforeInitRaiseNotInit : Prop :=
  ∀ (i : Instr) (s : State) (r : List Byte), notInitResponse i = some r → s.initialised = false →
    exec i s = .next (s.notInit r)

/-- R6: a step takes the input presented first and runs the instruction it decodes to, or the head of the pending queue.
The model's choices: with no input ready it takes a free one or waits (log 2); a dispatch of an empty queue does nothing (log 5). -/
def Obligations.StepRunsTheDecodedInstruction : Prop :=
  ∀ (s : State) (rest : List Input),
    (∀ p i, s.env.inputs = .command p :: rest → decodeCommand p = .ok i →
      step s = exec i { s with env := { s.env with inputs := rest } }) ∧
    (∀ l i, s.env.inputs = .timer l :: rest → decodeTimer l = .ok i →
      step s = exec i { s with env := { s.env with inputs := rest } }) ∧
    (∀ e q, s.env.inputs = .dispatch :: rest → s.irqQ = e :: q →
      step s = exec (instrOfEvent e) { s with irqQ := q, env := { s.env with inputs := rest } }) ∧
    (s.env.inputs = .dispatch :: rest → s.irqQ = [] → step s = .next { s with env := { s.env with inputs := rest } }) ∧
    (s.env.inputs = [] →
      step s = match Config.freeInput s.env.draws with
        | some inp => step { s with env := { s.env with inputs := [inp], draws := s.env.draws + 1 } }
        | none => .next { s with env := { s.env with draws := s.env.draws + 1 } })

/-- An instruction placed by its table word is what the very next step runs, on the state it was placed in. The placing and the
reading of a table word are the model's choices (log 2, log 11). -/
def Obligations.ATableWordRunsAsTheNextStep : Prop :=
  ∀ (s : State) (nbits w : Nat) (i : Instr), decodeTableWord nbits w = some i →
    step (s.withFetchWord nbits w) = exec i s

/-- R100, R108: a packet that decodes to nothing raises `IllegalCommand` and answers `STATUS_ERROR`; a line code above 2 raises
`BadEvent`; opcode 0 and opcodes above `0x23` decode to nothing. That the empty packet is one of them, and that a line
code is one byte wide, are the model's inferences (log 13, log 24). -/
def Obligations.MalformedInputsRaiseTheirFault : Prop :=
  (∀ (s : State) (rest : List Input) (p : List Byte) (err : DecodeError), s.env.inputs = .command p :: rest →
    decodeCommand p = .error err →
    step s = .next
      { s with
        env := { s.env with inputs := rest }, fault := s.fault ||| 0x1, trace := s.trace ++ [.response statusError] }) ∧
  (∀ (s : State) (rest : List Input) (l : Byte), s.env.inputs = .timer l :: rest → 2 < l.toNat →
    step s = .next { s with env := { s.env with inputs := rest }, fault := s.fault ||| 0x8 }) ∧
  ∀ (op : Byte) (bs : List Byte), op = 0 ∨ 0x24 ≤ op.toNat → ∃ err, decodeCommand (op :: bs) = .error err

/-- R352: reserved bits raise `BadEvent`; the enabled events are queued in priority order as far as they fit, and `IrqOverrun`
is raised when one does not. -/
def Obligations.RaiseStepQueuesEnabledEventsInPriorityOrder : Prop :=
  ∀ (s : State) (rest : List Input) (v : U16), s.irqQ.length ≤ 4 → s.env.inputs = .irq v :: rest →
    let es := priorityEvents (v &&& s.irqMaskShadow &&& 0x43FF)
    step s = .next
      { s with
        env := { s.env with inputs := rest }
        irqQ := s.irqQ ++ es.take (4 - s.irqQ.length)
        fault := s.fault ||| (if v &&& 0xBC00 = 0 then 0 else 0x8) |||
          (if 4 < s.irqQ.length + es.length then 0x4 else 0) }

/-- Decoding the encoding of a well-formed instruction gives it back, at every value of every operand. What an IRQ row's input is,
and which port it comes by, are the model's choices (log 11, log 12). -/
def Obligations.DecodeOfEncodeIsTheInstruction : Prop :=
  ∀ i : Instr, i.wellFormed = true → decodeInput (encode i) = .ok [i]

/-- A packet that decodes has the length its opcode requires, and is the only packet of a well-formed instruction. -/
def Obligations.ADecodedPacketIsTheEncodingOfItsInstruction : Prop :=
  ∀ (p : List Byte) (i : Instr), decodeCommand p = .ok i →
    i.wellFormed = true ∧ encode i = .command p ∧ p.length = packetLength p

/-- R104, R107, R351: some packets, vectors and line codes written out byte by byte. A vector as a list of events is the model's
reading (log 12). -/
def Obligations.WrittenOutInputsDecode : Prop :=
  decodeCommand [0x01, 0x5F] = .ok (.init 0x5F) ∧
  decodeCommand [0x0E, 0xB8, 0x0B, 0x00, 0x00] = .ok (.rx 3000) ∧
  decodeCommand [0x0B, 0x03, 0x01, 0x02, 0x03] = .ok (.send 3 [1, 2, 3]) ∧
  decodeCommand [0x15, 0xC0, 0x06, 0x03, 0xC1, 0x94, 0xC1] = .ok (.writeRegisters 0x06C0 3 [0xC1, 0x94, 0xC1]) ∧
  decodeCommand [0x21, 0x00, 0x00, 0x00, 0x00, 0x00, 0x01] = .ok (.receiveLongPacket false 0 true) ∧
  decodeCommand [0x21, 0x02, 0x00, 0x00, 0x00, 0x00, 0x01] = .error .badBool ∧
  decodeCommand [0x01, 0x80] = .error .cbMaskBit7 ∧ decodeCommand [0x0C, 0x00] = .error .wrongLength ∧
  decodeVector 0x0180 = [.irqCadDone true] ∧ decodeVector 0x0042 = [.irqCrcError, .irqRxDone] ∧
  decodeVector 0x8200 = [.irqReserved 0x8000, .irqTimeout] ∧ decodeVector 0x0100 = [] ∧
  decodeTimer 2 = .ok .expireChunkTimer

/-! ## Who writes what -/

/-- R210: an input changes `RadioState` only as the transition table lists it. -/
def Obligations.RadioStateMovesOnlyByTheTransitionTable : Prop :=
  ∀ (i : Instr) (s t : State), exec i s = .next t →
    t.radioState = s.radioState ∨ t.radioState ∈ radioTargets s.radioState i

/-- R20, R27, R44, R45, R276, R292: an instruction that is not a writer of a register leaves it. The last two clauses are the
model's choices, since R50 and U8 leave both buffers unspecified between steps: `RxStage` keeps its bytes until they are written
again (log 8), and `RadioBuffer` is redrawn at its uses alone (log 7). -/
def Obligations.RegistersChangeOnlyByTheirWriters : Prop :=
  ∀ (i : Instr) (s t : State), exec i s = .next t →
    (writesIrqMask i = false → t.irqMaskShadow = s.irqMaskShadow) ∧
    (writesModemParams i = false → t.mp = s.mp) ∧
    (writesEngineConfig i = false → t.lp.configPart = s.lp.configPart) ∧
    (writesStreamRegisters i = false → t.lp.whiteLfsr = s.lp.whiteLfsr ∧ t.lp.crcLfsr = s.lp.crcLfsr) ∧
    (writesRxStage i = false → t.rxStage = s.rxStage) ∧
    (usesRadioBuffer i = false → t.radioBuffer = s.radioBuffer)

/-! ## Queries, lifecycle, small commands -/

/-- R218, R197, R198. -/
def Obligations.QueriesAnswerWithoutAnyEffect : Prop :=
  ∀ (s : State) (freq : U32),
    exec .getStatus s = .next (s.output [.response
      [match s.radioState with
        | .idle => 0
        | .rxRunning => 1
        | .txRunning => 2
        | .cad => 3]]) ∧
    exec (.checkRfFrequency freq) s = .next (s.output [.response [if Config.freqSupported freq then 1 else 0]]) ∧
    exec .getWakeupTime s = .next (s.output [.response (u32Bytes Config.wakeupTimeMs)])

/-- R219, R220, R12. -/
def Obligations.StandbyAbortsAndSleepAbortsWithSetSleep : Prop :=
  ∀ s : State,
    exec .standby s = .next
      (if s.initialised then s.aborted.output [.response statusOk] else s.notInit statusError) ∧
    exec .sleep s = .next
      (if s.initialised then
        { s.aborted with
          trace := s.trace ++ [.tmr (.stop .tx), .tmr (.stop .rx), .tmr (.stop .chunk), .ri (.setSleep Config.sleepParams),
            .response statusOk] }
      else s.notInit statusError)

/-- R211, R421: `Init` returns every register with a specified reset value to it, but `Fault`; takes the callback mask;
initialises the timers and forces Standby. -/
def Obligations.InitReturnsToResetKeepingFault : Prop :=
  ∀ (s : State) (m : Byte), ∃ t, exec (.init m) s = .next t ∧ t.initialised = true ∧ t.cbMask = m.setWidth 7 ∧
    t.fault = s.fault ∧ t.AtReset ∧
    t.trace = s.trace ++ [.tmr (.init .tx), .tmr (.init .rx), .tmr (.init .chunk), standbyOutput,
      .ri (.setDioIrqParams 0), .response statusOk]

/-- R151, R159, R158. -/
def Obligations.SetModemSetChannelAndSetPublicNetworkResults : Prop :=
  ∀ (s : State) (m : Byte) (freq : U32) (enable : Bool),
    exec (.setModem m) s = .next
      (if s.initialised then
        if 5 < m.toNat then s.output [.response statusUnsupported]
        else
          { s with
            mp := { s.mp with
              modem := [ModemKind.fsk, .lora, .msk, .bpsk, .sigfoxTx, .sigfoxRx].getD m.toNat .fsk }
            trace := s.trace ++ [.response statusOk] }
      else s.notInit statusError) ∧
    exec (.setChannel freq) s = .next
      (if s.initialised then s.output [.ri (.setRfFrequency freq), .response statusOk] else s.notInit statusError) ∧
    exec (.setPublicNetwork enable) s = .next
      (if s.initialised then
        let w := if enable then Config.loraSyncwordPublic else Config.loraSyncwordPrivate
        { s with
          mp := { s.mp with publicNetwork := enable }
          trace := s.trace ++ [.ri (.write Config.addrLoraSyncword (w.extractLsb' 8 8)),
            .ri (.write (Config.addrLoraSyncword + 1) (w.extractLsb' 0 8)), .response statusOk] }
      else s.notInit statusError)

/-- R223, R224; the oracle's answer is the next of the environment's (log 3). -/
def Obligations.RandomAndRssiAnswerTheOracle : Prop :=
  ∀ (s : State) (m : Byte),
    exec .random s = .next
      (if s.initialised then
        { s.fromIdle.skipAnswers 1 with
          irqQ := []
          irqMaskShadow := 0x0000
          trace := s.fromIdle.trace ++ [.ri (.setDioIrqParams 0x0000), .ri .getRandom, .response (u32Bytes (s.answer 0))] }
      else s.notInit [0, 0, 0, 0]) ∧
    exec (.rssi m) s = .next
      (if s.initialised then
        (s.skipAnswers 1).output [.ri .getRssiInst, .response (u16Bytes ((s.answer 0).setWidth 16))]
      else s.notInit [0, 0])

/-- R230 to R233; the oracle's answers are the environment's (log 3). -/
def Obligations.PassThroughEmitsTheOneOperation : Prop :=
  ∀ (s : State) (addr : U16) (data n : Byte) (bytes : List Byte),
    exec (.write addr data) s = .next
      (if s.initialised then s.output [.ri (.write addr data), .response statusOk] else s.notInit statusError) ∧
    exec (.read addr) s = .next
      (if s.initialised then (s.skipAnswers 1).output [.ri (.read addr), .response [(s.answer 0).setWidth 8]]
      else s.notInit [0]) ∧
    exec (.writeRegisters addr n bytes) s = .next
      (if s.initialised then
        s.output ((if n = 0 then [] else [.ri (.writeRegisters addr bytes n)]) ++ [.response statusOk])
      else s.notInit statusError) ∧
    exec (.readRegisters addr n) s = .next
      (if s.initialised then
        if n = 0 then s.output [.response []]
        else (s.skipAnswers n.toNat).output [.ri (.readRegisters addr n), .response (s.nextBytes n.toNat)]
      else s.notInit (List.replicate n.toNat 0))

/-- R242 to R246. -/
def Obligations.RefusedCommandsAnswerAndDoNothing : Prop :=
  ∀ (s : State) (a b : U32) (p n : Byte) (cfg : List Byte),
    (∀ i ∈ [Instr.setRxDutyCycle a b, .txPrbs, .txCw p, .lrFhssSetCfg n cfg],
      exec i s = .next
        (if s.initialised then s.output [.response statusUnsupported] else s.notInit statusError)) ∧
    exec (.lrFhssGetTimeOnAirInMs n cfg) s = .next
      (if s.initialised then s.output [.response [0, 0, 0, 0]] else s.notInit [0, 0, 0, 0])

/-! ## Configuration -/

/-- R152, kinds `FSK` and `SigfoxRx`. -/
def Obligations.SetRxConfigForFskAndSigfoxRx : Prop :=
  ∀ (s : State) (c : RxConfig), s.initialised = true → c.datarate ≠ 0 →
    let st : U16 := if c.rxContinuous then 0 else c.symbTimeout
    let ms : U32 := BitVec.ofNat 32 ((st.toNat * 8000 + c.datarate.toNat - 1) / c.datarate.toNat)
    let len : U16 := c.payloadLen.setWidth 16
    let max : U16 := if c.fixLen then len else 255
    let syncF : Bytes8 := ⟨Config.syncwordFsk.1, Config.syncwordFsk.2.1, Config.syncwordFsk.2.2, 0, 0, 0, 0, 0⟩
    let syncS : Bytes8 := ⟨Config.syncwordSigfoxRx.1, Config.syncwordSigfoxRx.2, 0, 0, 0, 0, 0, 0⟩
    let crc : CrcType := if c.crcOn then .ccitt2 else .off
    let mod : Output := .ri (.setModulationParams (.fsk false c.datarate s.mp.fdev (Config.fskBwCode c.bandwidth)))
    let common : ModemParams :=
      { s.mp with
        rxContinuous := c.rxContinuous, symbTimeout := st, freqHopOn := c.freqHopOn, hopPeriod := c.hopPeriod
        bandwidthAfc := c.bandwidthAfc, datarate := c.datarate, bw := c.bandwidth, preambleLen := c.preambleLen
        crcPoly := Config.fskCrcPoly, crcSeed := Config.fskCrcSeed, rxTimeoutCfg := ms, rxValid := true }
    (c.modem = 0 → exec (.setRxConfig c) s = .next
      { s.aborted with
        mp := { common with
          modem := .fsk, maxPayloadLen := max, payloadLen := max, syncWordLen := 3, syncWord := syncF, fixLen := c.fixLen
          lengthMode := if c.fixLen then .fixed else .var1, crcOn := c.crcOn, crcType := crc, whiteMode := .hw
          whiteSeed := Config.fskWhiteSeed }
        lp := { s.lp.cleared with enable := false }
        trace := s.aborted.trace ++ [mod, .ri (.setPacketParams (.fsk c.preambleLen 3 syncF c.fixLen max crc
          Config.fskCrcPoly Config.fskCrcSeed true (Config.fskWhiteSeed.setWidth 16))), .response statusOk] }) ∧
    (c.modem = 5 → exec (.setRxConfig c) s = .next
      { s.aborted with
        mp := { common with
          modem := .sigfoxRx, maxPayloadLen := len, payloadLen := len, syncWordLen := 2, syncWord := syncS, fixLen := true
          lengthMode := .fixed, crcOn := false, crcType := .off, whiteMode := .off, whiteSeed := 0x1FF }
        lp := { s.lp.cleared with enable := false }
        trace := s.aborted.trace ++ [mod, .ri (.setPacketParams (.fsk c.preambleLen 2 syncS true len .off
          Config.fskCrcPoly Config.fskCrcSeed false 0x01FF)), .response statusOk] })

/-- R152 for LoRa, with R143, R144, R145, R147. -/
def Obligations.SetRxConfigForLora : Prop :=
  ∀ (s : State) (c : RxConfig), s.initialised = true → c.modem = 1 → 5 ≤ c.datarate.toNat → c.datarate.toNat ≤ 12 →
    c.bandwidth.toNat ≤ 2 → 1 ≤ c.coderate.toNat → c.coderate.toNat ≤ 4 →
    let st : U16 := if c.rxContinuous then 0 else c.symbTimeout
    let bwHz : U32 := [125000, 250000, 500000].getD c.bandwidth.toNat 0
    let low : Bool := decide ((bwHz = 125000 ∧ (c.datarate = 11 ∨ c.datarate = 12)) ∨ (bwHz = 250000 ∧ c.datarate = 12))
    let pre : U16 := if c.datarate.toNat ≤ 6 ∧ c.preambleLen.toNat < 12 then 12 else c.preambleLen
    let max : Byte := if c.fixLen then c.payloadLen else 255
    let v : Byte := (s.answer 0).setWidth 8
    let bit : Byte := 1#8 <<< Config.iqPolBit.val
    exec (.setRxConfig c) s = .next
      { s.aborted.skipAnswers 1 with
        mp := { s.mp with
          modem := .lora, rxContinuous := c.rxContinuous, symbTimeout := st, maxPayloadLen := max.setWidth 16
          payloadLen := max.setWidth 16, freqHopOn := c.freqHopOn, hopPeriod := c.hopPeriod, bandwidthAfc := c.bandwidthAfc
          datarate := c.datarate, bw := bwHz, coderate := c.coderate, ldro := low, preambleLen := pre, fixLen := c.fixLen
          lengthMode := if c.fixLen then .fixed else .var1, crcOn := c.crcOn, crcType := if c.crcOn then .other else .off
          iqInverted := c.iqInverted, rxTimeoutCfg := 0xFFFFFFFF, rxValid := true }
        lp := { s.lp.cleared with enable := false }
        trace := s.aborted.trace ++ [.ri (.setModulationParams (.lora (c.datarate.setWidth 8) bwHz c.coderate low)),
          .ri (.setPacketParams (.lora pre c.fixLen max c.crcOn c.iqInverted st)), .ri (.read Config.addrIqPolarity),
          .ri (.write Config.addrIqPolarity (if c.iqInverted then v &&& ~~~bit else v ||| bit)), .response statusOk] }

/-- R153, kinds `FSK` and `SigfoxTx`. That a `datarate` of 0 is left out for `SigfoxTx` too is the model's reading (log 25). -/
def Obligations.SetTxConfigForFskAndSigfoxTx : Prop :=
  ∀ (s : State) (c : TxConfig), s.initialised = true → c.datarate ≠ 0 →
    let sync : Bytes8 := ⟨Config.syncwordFsk.1, Config.syncwordFsk.2.1, Config.syncwordFsk.2.2, 0, 0, 0, 0, 0⟩
    let crc : CrcType := if c.crcOn then .ccitt2 else .off
    let max : U16 := s.mp.maxPayloadLen
    let common : ModemParams :=
      { s.mp with
        freqHopOn := c.freqHopOn, hopPeriod := c.hopPeriod, payloadLen := max, datarate := c.datarate, power := c.power
        antSel := (s.answer 0).setWidth 8, txTimeout := c.timeout, txValid := true }
    (c.modem = 0 → exec (.setTxConfig c) s = .next
      { s.aborted.skipAnswers 1 with
        mp := { common with
          modem := .fsk, bw := c.bandwidth, fdev := c.fdev, preambleLen := c.preambleLen, syncWordLen := 3
          syncWord := sync, fixLen := c.fixLen, lengthMode := if c.fixLen then .fixed else .var1, crcOn := c.crcOn
          crcType := crc, crcPoly := Config.fskCrcPoly, crcSeed := Config.fskCrcSeed, whiteMode := .hw
          whiteSeed := Config.fskWhiteSeed }
        lp := { s.lp.cleared with enable := false }
        trace := s.aborted.trace ++ [.ri (.setModulationParams (.fsk false c.datarate c.fdev (Config.fskBwCode c.bandwidth))),
          .ri (.setPacketParams (.fsk c.preambleLen 3 sync c.fixLen max crc Config.fskCrcPoly Config.fskCrcSeed true
            (Config.fskWhiteSeed.setWidth 16))), .ri (.setRfTxPower c.power), .response statusOk] }) ∧
    (c.modem = 4 → exec (.setTxConfig c) s = .next
      { s.aborted.skipAnswers 1 with
        mp := { common with modem := .sigfoxTx }
        lp := { s.lp.cleared with enable := false }
        trace := s.aborted.trace ++ [.ri (.setModulationParams (.bpsk c.datarate)), .ri (.setPacketParams (.bpsk max)),
          .ri (.setRfTxPower c.power), .response statusOk] })

/-- R153 for LoRa; the record's u8 length above 255 is a free value (log 9). -/
def Obligations.SetTxConfigForLora : Prop :=
  ∀ (s : State) (c : TxConfig), s.initialised = true → c.modem = 1 → 5 ≤ c.datarate.toNat → c.datarate.toNat ≤ 12 →
    c.bandwidth.toNat ≤ 2 → 1 ≤ c.coderate.toNat → c.coderate.toNat ≤ 4 →
    let bwHz : U32 := [125000, 250000, 500000].getD c.bandwidth.toNat 0
    let low : Bool := decide ((bwHz = 125000 ∧ (c.datarate = 11 ∨ c.datarate = 12)) ∨ (bwHz = 250000 ∧ c.datarate = 12))
    let pre : U16 := if c.datarate.toNat ≤ 6 ∧ c.preambleLen.toNat < 12 then 12 else c.preambleLen
    let max : U16 := s.mp.maxPayloadLen
    let len : Byte := if max.toNat ≤ 255 then max.setWidth 8 else Config.loraPayloadLenOver max
    let v : Byte := (s.answer 0).setWidth 8
    let bit : Byte := 1#8 <<< Config.iqPolBit.val
    exec (.setTxConfig c) s = .next
      { s.aborted.skipAnswers 2 with
        mp := { s.mp with
          modem := .lora, freqHopOn := c.freqHopOn, hopPeriod := c.hopPeriod, payloadLen := max, datarate := c.datarate
          bw := bwHz, coderate := c.coderate, ldro := low, preambleLen := pre, fixLen := c.fixLen
          lengthMode := if c.fixLen then .fixed else .var1, crcOn := c.crcOn, crcType := if c.crcOn then .other else .off
          iqInverted := c.iqInverted, power := c.power, antSel := (s.answer 1).setWidth 8, txTimeout := c.timeout
          txValid := true }
        lp := { s.lp.cleared with enable := false }
        trace := s.aborted.trace ++ [.ri (.setModulationParams (.lora (c.datarate.setWidth 8) bwHz c.coderate low)),
          .ri (.setPacketParams (.lora pre c.fixLen len c.crcOn c.iqInverted s.mp.symbTimeout)),
          .ri (.read Config.addrIqPolarity),
          .ri (.write Config.addrIqPolarity (if c.iqInverted then v &&& ~~~bit else v ||| bit)),
          .ri (.setRfTxPower c.power), .response statusOk] }

/-- R141, R142: a kind the command does not support, then an operand out of range, is answered and nothing else happens. That 0
is out of range for `SetTxConfig` of `SigfoxTx`, of which R153's "as in rule R152" does not speak, is the model's reading
(log 25). -/
def Obligations.UnsupportedKindsAndRangesAreRefusedWithoutEffect : Prop :=
  ∀ (s : State) (r : RxConfig) (x : TxConfig) (g : Gcfg) (m k p : Byte) (b : Bool) (n : U16) (t : U32),
    s.initialised = true →
    (∀ i, (i = .setModem m ∧ 5 < m.toNat) ∨ (i = .setRxConfig r ∧ r.modem ≠ 0 ∧ r.modem ≠ 1 ∧ r.modem ≠ 5) ∨
        (i = .setTxConfig x ∧ x.modem ≠ 0 ∧ x.modem ≠ 1 ∧ x.modem ≠ 4) ∨
        (i = .setRxGenericConfig g b n ∧ g.modem ≠ 0) ∨
        (i = .setTxGenericConfig g p t ∧ g.modem ≠ 0 ∧ g.modem ≠ 2 ∧ g.modem ≠ 3) ∨
        (i = .setMaxPayloadLength m k ∧ m ≠ 0 ∧ m ≠ 1) →
      exec i s = .next (s.output [.response statusUnsupported])) ∧
    ∀ i, (i = .setRxConfig r ∧ (r.modem = 0 ∨ r.modem = 5) ∧ r.datarate = 0) ∨
        (i = .setRxConfig r ∧ r.modem = 1 ∧ ¬(5 ≤ r.datarate.toNat ∧ r.datarate.toNat ≤ 12 ∧ r.bandwidth.toNat ≤ 2 ∧
          1 ≤ r.coderate.toNat ∧ r.coderate.toNat ≤ 4)) ∨
        (i = .setTxConfig x ∧ (x.modem = 0 ∨ x.modem = 4) ∧ x.datarate = 0) ∨
        (i = .setTxConfig x ∧ x.modem = 1 ∧ ¬(5 ≤ x.datarate.toNat ∧ x.datarate.toNat ≤ 12 ∧ x.bandwidth.toNat ≤ 2 ∧
          1 ≤ x.coderate.toNat ∧ x.coderate.toNat ≤ 4)) ∨
        (i = .setRxGenericConfig g b n ∧ g.modem = 0 ∧ ¬ gcfgInRange g) ∨
        (i = .setTxGenericConfig g p t ∧ (g.modem = 0 ∨ g.modem = 2) ∧ ¬ gcfgInRange g) ∨
        (i = .setTxGenericConfig g p t ∧ g.modem = 3 ∧ g.bitrate = 0) →
      exec i s = .next (s.output [.response statusError])

/-- R155 with R271 and R150. -/
def Obligations.SetRxGenericConfigResult : Prop :=
  ∀ (s : State) (g : Gcfg) (cont : Bool) (symb : U16) (lm : LengthMode) (ct : CrcType) (wm : WhiteMode),
    s.initialised = true → g.modem = 0 → gcfgInRange g → lengthModeOf g.lengthMode = some lm →
    crcTypeOf g.crcType = some ct → whiteModeOf g.whiteMode = some wm →
    let rfw : Bool := g.whiteMode == 2 || g.lengthMode == 2
    let st : U16 := if cont then 0 else symb
    let seed : BitVec 9 := g.whiteSeed.setWidth 9
    let len : U16 := if rfw then BitVec.ofNat 16 (longestFrame g) else g.maxPayloadLen
    exec (.setRxGenericConfig g cont symb) s = .next
      { s.aborted with
        mp := { s.mp with
          modem := .fsk, datarate := g.bitrate, bw := g.bandwidth, preambleLen := g.preambleLen
          syncWordLen := g.syncWordLen, syncWord := g.syncWord, lengthMode := lm, fixLen := lm == .fixed
          maxPayloadLen := g.maxPayloadLen, crcType := ct, crcOn := ct != .off, crcPoly := g.crcPoly, crcSeed := g.crcSeed
          whiteMode := wm, whiteSeed := seed, rxContinuous := cont, symbTimeout := st, payloadLen := len
          rxTimeoutCfg := BitVec.ofNat 32 ((st.toNat * 8000 + g.bitrate.toNat - 1) / g.bitrate.toNat), rxValid := true }
        lp := if rfw then
            { s.lp.cleared with
              enable := true, lenW := lenWidthOf lm, crcW := crcWidthOf ct, crcType := ct, crcPoly := g.crcPoly
              crcSeed := g.crcSeed, whiteOn := wm != .off, whiteSeed := seed, maxLen := g.maxPayloadLen
              fixedLen := g.maxPayloadLen, bitrate := g.bitrate }
          else { s.lp.cleared with enable := false }
        trace := s.aborted.trace ++ [
          .ri (.setModulationParams (.fsk false g.bitrate s.mp.fdev (Config.fskBwCode g.bandwidth))),
          .ri (.setPacketParams (.fsk g.preambleLen g.syncWordLen g.syncWord (rfw || lm == .fixed) len
            (if rfw then .off else ct) g.crcPoly g.crcSeed (!rfw && wm == .hw) g.whiteSeed)),
          .response statusOk] }

/-- R156 for `FSK` and `MSK`, with R271 and R150. -/
def Obligations.SetTxGenericConfigForFskAndMsk : Prop :=
  ∀ (s : State) (g : Gcfg) (power : Byte) (timeout : U32) (msk : Bool) (lm : LengthMode) (ct : CrcType) (wm : WhiteMode),
    s.initialised = true → g.modem = (if msk then 2 else 0) → gcfgInRange g → lengthModeOf g.lengthMode = some lm →
    crcTypeOf g.crcType = some ct → whiteModeOf g.whiteMode = some wm →
    let rfw : Bool := g.whiteMode == 2 || g.lengthMode == 2
    let seed : BitVec 9 := g.whiteSeed.setWidth 9
    let len : U16 := if rfw then BitVec.ofNat 16 (longestFrame g) else g.maxPayloadLen
    exec (.setTxGenericConfig g power timeout) s = .next
      { s.aborted.skipAnswers 1 with
        mp := { s.mp with
          modem := if msk then .msk else .fsk, datarate := g.bitrate, fdev := g.fdev, preambleLen := g.preambleLen
          syncWordLen := g.syncWordLen, syncWord := g.syncWord, lengthMode := lm, fixLen := lm == .fixed
          maxPayloadLen := g.maxPayloadLen, crcType := ct, crcOn := ct != .off, crcPoly := g.crcPoly, crcSeed := g.crcSeed
          whiteMode := wm, whiteSeed := seed, payloadLen := len, power := power, antSel := (s.answer 0).setWidth 8
          txTimeout := timeout, txValid := true }
        lp := if rfw then
            { s.lp.cleared with
              enable := true, lenW := lenWidthOf lm, crcW := crcWidthOf ct, crcType := ct, crcPoly := g.crcPoly
              crcSeed := g.crcSeed, whiteOn := wm != .off, whiteSeed := seed, maxLen := g.maxPayloadLen
              fixedLen := g.maxPayloadLen, bitrate := g.bitrate }
          else { s.lp.cleared with enable := false }
        trace := s.aborted.trace ++ [
          .ri (.setModulationParams (.fsk msk g.bitrate g.fdev (Config.fskBwCode s.mp.bw))),
          .ri (.setPacketParams (.fsk g.preambleLen g.syncWordLen g.syncWord (rfw || lm == .fixed) len
            (if rfw then .off else ct) g.crcPoly g.crcSeed (!rfw && wm == .hw) g.whiteSeed)),
          .ri (.setRfTxPower power), .response statusOk] }

/-- R156 for `BPSK`. -/
def Obligations.SetTxGenericConfigForBpsk : Prop :=
  ∀ (s : State) (g : Gcfg) (power : Byte) (timeout : U32), s.initialised = true → g.modem = 3 → g.bitrate ≠ 0 →
    exec (.setTxGenericConfig g power timeout) s = .next
      { s.aborted.skipAnswers 1 with
        mp := { s.mp with
          modem := .bpsk, datarate := g.bitrate, power := power, antSel := (s.answer 0).setWidth 8, txTimeout := timeout
          txValid := true }
        lp := { s.lp.cleared with enable := false }
        trace := s.aborted.trace ++ [.ri (.setModulationParams (.bpsk g.bitrate)),
          .ri (.setPacketParams (.bpsk s.mp.payloadLen)), .ri (.setRfTxPower power), .response statusOk] }

/-- R157. -/
def Obligations.SetMaxPayloadLengthResult : Prop :=
  ∀ (s : State) (m max : Byte),
    exec (.setMaxPayloadLength m max) s = .next
      (if s.initialised = false then s.notInit statusError
      else if m ≠ 0 ∧ m ≠ 1 then s.output [.response statusUnsupported]
      else if s.mp.modem ≠ (if m = 1 then .lora else .fsk) ∨ s.lp.enable = true ∨
          (s.mp.rxValid = false ∧ s.mp.txValid = false) then s.output [.response statusError]
      else if m = 1 then
        { s with
          mp := { s.mp with maxPayloadLen := max.setWidth 16, payloadLen := max.setWidth 16 }
          trace := s.trace ++ [.ri (.setPacketParams (.lora s.mp.preambleLen s.mp.fixLen max s.mp.crcOn s.mp.iqInverted
            s.mp.symbTimeout)), .response statusOk] }
      else if s.mp.fixLen = true then
        { s with
          mp := { s.mp with maxPayloadLen := max.setWidth 16 }, trace := s.trace ++ [.response statusOk] }
      else
        { s with
          mp := { s.mp with maxPayloadLen := max.setWidth 16, payloadLen := max.setWidth 16 }
          trace := s.trace ++ [fskPacket s.mp (max.setWidth 16), .response statusOk] })

/-- R154: a configuration command repeated pushes the same records. -/
def Obligations.RepeatedConfigurationPushesTheSameRecords : Prop :=
  ∀ (s t u : State) (i : Instr) (r : RxConfig) (x : TxConfig) (g : Gcfg) (p : Byte) (b : Bool) (n : U16) (ms : U32),
    i ∈ [Instr.setRxConfig r, .setTxConfig x, .setRxGenericConfig g b n, .setTxGenericConfig g p ms] →
    exec i s = .next t → exec i t = .next u →
    ∃ a b, t.trace = s.trace ++ a ∧ u.trace = t.trace ++ b ∧ a.filter Output.isRecord = b.filter Output.isRecord

/-! ## Time on air -/

/-- R190 to R193: the value is the least integer not below the exact quotient; 0 where no formula applies. -/
def Obligations.TimeOnAirIsTheLeastIntegerNotBelowTheQuotient : Prop :=
  ∀ (s : State) (a : AirParams), ∃ ms : U32, exec (.timeOnAir a) s = .next (s.output [.response (u32Bytes ms)]) ∧
    (a.modem = 0 → a.datarate = 0 → ms = 0) ∧
    (a.modem = 0 → a.datarate ≠ 0 →
      let bits := a.preambleLen.toNat * 8 + (if a.fixLen then 0 else 8) + 24 +
        (a.payloadLen.toNat + (if a.crcOn then 2 else 0)) * 8
      bits * 1000 ≤ ms.toNat * a.datarate.toNat ∧ ∀ q, bits * 1000 ≤ q * a.datarate.toNat → ms.toNat ≤ q) ∧
    (a.modem = 1 → (a.datarate.toNat < 5 ∨ 12 < a.datarate.toNat ∨ 2 < a.bandwidth.toNat ∨ a.coderate.toNat < 1 ∨
      4 < a.coderate.toNat) → ms = 0) ∧
    (a.modem = 1 → 5 ≤ a.datarate.toNat → a.datarate.toNat ≤ 12 → a.bandwidth.toNat ≤ 2 → 1 ≤ a.coderate.toNat →
      a.coderate.toNat ≤ 4 →
      let sf := a.datarate.toNat
      let bw : Nat := [125000, 250000, 500000].getD a.bandwidth.toNat 0
      let pre := if sf ≤ 6 then max 12 a.preambleLen.toNat else a.preambleLen.toNat
      let low := (bw = 125000 ∧ 11 ≤ sf) ∨ (bw = 250000 ∧ sf = 12)
      let cn : Int := a.payloadLen.toNat * 8 + (if a.crcOn then 16 else 0) - 4 * sf + (if a.fixLen then 0 else 20) +
        (if 6 < sf then 8 else 0)
      let cd : Nat := if low then 4 * (sf - 2) else 4 * sf
      ∃ k : Nat, cn ≤ k * cd ∧ (∀ q : Nat, cn ≤ q * cd → k ≤ q) ∧
        let symbols := k * (a.coderate.toNat + 4) + pre + 12 + (if sf ≤ 6 then 2 else 0)
        (4 * symbols + 1) * 2 ^ (sf - 2) * 1000 ≤ ms.toNat * bw ∧
        ∀ q, (4 * symbols + 1) * 2 ^ (sf - 2) * 1000 ≤ q * bw → ms.toNat ≤ q) ∧
    (1 < a.modem.toNat → ms = 0)

/-- R195 (a), (b), (c). -/
def Obligations.TimeOnAirIsPureMonotoneAndFloored : Prop :=
  ∀ (a b : AirParams), ∃ x y : U32,
    (∀ s : State, exec (.timeOnAir a) s = .next (s.output [.response (u32Bytes x)]) ∧
      exec (.timeOnAir b) s = .next (s.output [.response (u32Bytes y)])) ∧
    (b = { a with payloadLen := b.payloadLen, preambleLen := b.preambleLen } → a.payloadLen.toNat ≤ b.payloadLen.toNat →
      a.preambleLen.toNat ≤ b.preambleLen.toNat → x.toNat ≤ y.toNat) ∧
    (b = { a with preambleLen := 12 } → a.modem = 1 → a.datarate = 5 ∨ a.datarate = 6 → a.preambleLen.toNat < 12 → x = y)

/-! ## Start commands -/

/-- R212 outside RFW mode, with R150 and R343. -/
def Obligations.SendOutsideRfwMode : Prop :=
  ∀ (s : State) (n : Byte) (d : List Byte), d.length = n.toNat → s.initialised = true → s.mp.txValid = true →
    s.lp.enable = false → s.mp.modem ≠ .sigfoxRx → (s.mp.modem = .sigfoxTx → n.toNat + 1 ≤ 255) →
    let s0 := s.fromIdle
    let bytes := if s.mp.modem = .sigfoxTx then bpskEncode d else d
    let len : U16 := BitVec.ofNat 16 bytes.length
    exec (.send n d) s = .next
      { (if s.mp.modem = .sigfoxTx then s0.useRadioBuffer else s0) with
        radioState := .txRunning
        irqQ := []
        irqMaskShadow := 0x0201
        txTimer := ⟨true, s.mp.txTimeout⟩
        mp := { s.mp with payloadLen := len }
        trace := s0.trace ++ [.ri (.setDioIrqParams 0x0201), .ri (.setSwitch s.mp.antSel .tx),
            match s.mp.modem with
            | .lora => .ri (.setPacketParams (.lora s.mp.preambleLen s.mp.fixLen n s.mp.crcOn s.mp.iqInverted
                s.mp.symbTimeout))
            | .fsk | .msk => fskPacket s.mp len
            | .bpsk | .sigfoxTx | .sigfoxRx => .ri (.setPacketParams (.bpsk len))] ++
          ringWrite 0 bytes ++
          [.tmr (.setValue .tx s.mp.txTimeout), .tmr (.start .tx), .ri (.setTx 0), .response statusOk] }

/-- R212 in RFW mode, with R279: one whole frame. That RFW mode is looked at before the kind is the model's reading (log 17). -/
def Obligations.SendInRfwMode : Prop :=
  ∀ (s : State) (n : Byte) (d : List Byte), d.length = n.toNat → s.initialised = true → s.mp.txValid = true →
    s.lp.enable = true → s.mp.modem ≠ .sigfoxRx → (s.mp.modem = .sigfoxTx → n.toNat + 1 ≤ 255) →
    n.toNat ≤ s.lp.maxLen.toNat → lenBytesOf s.lp.lenW + n.toNat + crcBytesOf s.lp.crcW ≤ 255 →
    let s0 := s.fromIdle
    let size : U16 := n.setWidth 16
    let plain := plainFrame s.lp size d
    exec (.send n d) s = .next
      { s0.useRadioBuffer with
        radioState := .txRunning
        irqQ := []
        irqMaskShadow := 0x0201
        txTimer := ⟨true, s.mp.txTimeout⟩
        mp := { s.mp with payloadLen := BitVec.ofNat 16 plain.length }
        lp := { s0.lp with
          whiteLfsr := (whitened s.lp s.lp.whiteSeed plain).2
          crcLfsr := crcOver s.lp s.lp.crcSeed (lenBytes s.lp.lenW size ++ d)
          payloadLen := size, total := BitVec.ofNat 32 plain.length, remaining := 0
          bufOffset := BitVec.ofNat 8 plain.length, dir := .tx, phase := .lastChunk, longMode := false }
        trace := s0.trace ++ [.ri (.setDioIrqParams 0x0201), .ri (.setSwitch s.mp.antSel .tx),
            rfwPacket s.mp (BitVec.ofNat 16 plain.length)] ++
          ringWrite 0 (frameBytes s.lp size d) ++
          [.tmr (.setValue .tx s.mp.txTimeout), .tmr (.start .tx), .ri (.setTx 0), .response statusOk] }

/-- R54, R212, R214, R280, R288, R368: what a start command refuses, with the status alone. The order of `Send`'s cases is the
model's reading (log 17). -/
def Obligations.StartCommandsRefuseByStatusAlone : Prop :=
  ∀ (s : State) (n : Byte) (d : List Byte) (size : U16) (t : U32) (b c : Bool), s.initialised = true →
    (s.mp.txValid = true → s.mp.modem = .sigfoxRx → exec (.send n d) s = .next (s.output [.response statusUnsupported])) ∧
    ∀ i, (i = .send n d ∧ s.mp.txValid = false) ∨
        (i = .send n d ∧ s.mp.modem ≠ .sigfoxRx ∧ s.lp.enable = true ∧
          (s.lp.maxLen.toNat < n.toNat ∨ 255 < lenBytesOf s.lp.lenW + n.toNat + crcBytesOf s.lp.crcW)) ∨
        (i = .send n d ∧ s.mp.modem = .sigfoxTx ∧ 255 < n.toNat + 1) ∨
        ((i = .rx t ∨ i = .rxBoosted t) ∧ s.mp.rxValid = false) ∨
        (i = .transmitLongPacket size t c ∧ (s.mp.txValid = false ∨ s.lp.enable = false ∨ c = false ∨
          s.lp.maxLen.toNat < size.toNat ∨ (s.lp.lenW = .w1 ∧ 255 < size.toNat) ∨
          (s.lp.lenW = .w0 ∧ size ≠ s.lp.fixedLen))) ∨
        (i = .receiveLongPacket b t c ∧ (s.mp.rxValid = false ∨ s.lp.enable = false ∨ c = false)) →
      exec i s = .next (s.output [.response statusError])

/-- R214, R215 outside RFW mode; the ticks are those of the default conversion (log 15). -/
def Obligations.RxAndRxBoostedOutsideRfwMode : Prop :=
  ∀ (s : State) (timeout : U32), s.initialised = true → s.mp.rxValid = true → s.lp.enable = false →
    let s0 := s.fromIdle
    let result := fun boosted : Bool =>
      { s0 with
        radioState := .rxRunning
        irqQ := []
        irqMaskShadow := 0x0262
        rxTimer := if timeout = 0 then s0.rxTimer else ⟨true, timeout⟩
        trace := s0.trace ++ [.ri (.setDioIrqParams 0x0262)] ++ receiveOutputs s.mp.antSel boosted timeout ++
          [.response statusOk] }
    exec (.rx timeout) s = .next (result false) ∧ exec (.rxBoosted timeout) s = .next (result true)

/-- R214, R215, R288, R289 in RFW mode: the engine is armed and the longest admissible frame programmed. The ticks are those of the
default conversion (log 15). -/
def Obligations.ReceiveStartsInRfwMode : Prop :=
  ∀ (s : State) (timeout : U32), s.initialised = true → s.mp.rxValid = true → s.lp.enable = true →
    let s0 := s.fromIdle
    let len : U16 := BitVec.ofNat 16 (lenBytesOf s.lp.lenW + s.lp.maxLen.toNat + crcBytesOf s.lp.crcW)
    let result := fun (boosted long : Bool) =>
      { s0 with
        radioState := .rxRunning
        irqQ := []
        irqMaskShadow := 0x0208
        rxTimer := if timeout = 0 then s0.rxTimer else ⟨true, timeout⟩
        mp := { s.mp with payloadLen := len }
        lp := { s.lp.cleared with dir := .rx, phase := .headerPending, longMode := long, chunkCb := long }
        trace := s0.trace ++ [.ri (.setDioIrqParams 0x0208), rfwPacket s.mp len] ++
          receiveOutputs s.mp.antSel boosted timeout ++ [.response statusOk] }
    exec (.rx timeout) s = .next (result false false) ∧ exec (.rxBoosted timeout) s = .next (result true false) ∧
    ∀ boosted, exec (.receiveLongPacket boosted timeout true) s = .next (result boosted true)

/-- R216. -/
def Obligations.StartCadResult : Prop :=
  ∀ s : State, exec .startCad s = .next
    (if s.initialised then
      { s.fromIdle with
        radioState := .cad
        irqQ := []
        irqMaskShadow := 0x0180
        trace := s.fromIdle.trace ++ [.ri (.setDioIrqParams 0x0180), .ri (.setSwitch s.mp.antSel .rx), .ri .setCad,
          .response statusOk] }
    else s.notInit statusError)

/-- R226. -/
def Obligations.SetTxContinuousWaveResult : Prop :=
  ∀ (s : State) (freq : U32) (power : Byte) (seconds : U16),
    let sel : Byte := (s.answer 0).setWidth 8
    let ms : U32 := BitVec.ofNat 32 (seconds.toNat * 1000)
    exec (.setTxContinuousWave freq power seconds) s = .next
      (if s.initialised then
        { s.fromIdle.skipAnswers 1 with
          radioState := .txRunning
          irqQ := []
          irqMaskShadow := 0x0000
          txTimer := ⟨true, ms⟩
          mp := { s.mp with power := power, antSel := sel }
          trace := s.fromIdle.trace ++ [.ri (.setRfFrequency freq), .ri (.setRfTxPower power), .ri (.setSwitch sel .tx),
            .ri (.setDioIrqParams 0x0000), .ri .setTxContinuousWave, .tmr (.setValue .tx ms), .tmr (.start .tx),
            .response statusOk] }
      else s.notInit statusError)

/-- R222: the receive configuration with the dummy operands, then polling; busy at the first sample above the threshold
taken before the time is up. The polling history is the environment's, and finite: the
model's choice (log 4). -/
def Obligations.IsChannelFreePollsUntilASampleExceedsTheThreshold : Prop :=
  ∀ (s : State) (freq bw : U32) (thresh : U16) (bound : U32), s.initialised = true →
    let dummy : RxConfig :=
      { modem := 0, bandwidth := bw, datarate := 600, coderate := 0, bandwidthAfc := bw, preambleLen := 3, symbTimeout := 0
        fixLen := false, payloadLen := 0, crcOn := false, freqHopOn := false, hopPeriod := 0, iqInverted := false
        rxContinuous := true }
    let polled := s.senseRun.takeWhile fun p => decide (p.1.toNat < bound.toNat)
    let quiet := polled.takeWhile fun p => decide (p.2.toInt ≤ thresh.toInt)
    let busy := decide (quiet.length < polled.length)
    let poll : Output := .tmr (.getElapsedTime (s.answer 0))
    ∃ u : State, exec (.setRxConfig dummy) s = .next (u.output [.response statusOk]) ∧
      exec (.isChannelFree freq bw thresh bound) s = .next
        { u with
          irqQ := []
          irqMaskShadow := 0x0000
          env := { s.env with
            answers := s.env.answers.drop 1, senseRuns := s.env.senseRuns.drop 1, draws := s.env.draws + 2 }
          trace := u.trace ++ [.ri (.setRfFrequency freq), .ri (.setDioIrqParams 0x0000), .ri (.setSwitch s.mp.antSel .rx),
              .ri (.setRx 0xFFFFFF), .tmr .getCurrentTime] ++
            quiet.flatMap (fun _ => [poll, .ri .getRssiInst]) ++ (if busy then [poll, .ri .getRssiInst] else [poll]) ++
            [standbyOutput, .response [if busy then 0 else 1]] }

/-- R225: the dispatch step issued as a command. -/
def Obligations.IrqProcessDispatchesTheHeadOfTheQueue : Prop :=
  ∀ s : State,
    (s.initialised = false → exec .irqProcess s = .next (s.notInit statusError)) ∧
    (s.initialised = true → s.irqQ = [] → exec .irqProcess s = .next (s.output [.response statusOk])) ∧
    ∀ e q, s.initialised = true → s.irqQ = e :: q →
      ∃ t, exec (instrOfEvent e) { s with irqQ := q } = .next t ∧
        exec .irqProcess s = .next (t.output [.response statusOk])

/-! ## Ends of operations -/

/-- R356, R358, R365. -/
def Obligations.TxDoneAndTimeoutEndATransmission : Prop :=
  ∀ s : State, s.radioState = .txRunning →
    exec .irqTxDone s = .next (s.transmitEnded 0 .txDone) ∧
    exec .irqTimeout s = .next (s.transmitEnded 1 .txTimeout) ∧
    (s.txTimer.armed = true → exec .expireTxTimer s = .next (s.transmitEnded 1 .txTimeout))

/-- R357, R359, R360, R366. -/
def Obligations.TimeoutsErrorsAndCadDoneEndTheirOperation : Prop :=
  ∀ (s : State) (detected : Bool),
    (s.radioState = .rxRunning →
      exec .irqTimeout s = .next (s.receiveEnded 3 .rxTimeout) ∧
      (s.rxTimer.armed = true → exec .expireRxTimer s = .next (s.receiveEnded 3 .rxTimeout)) ∧
      (s.lp.dir = .none → ∀ i ∈ [Instr.irqCrcError, .irqHeaderError],
        exec i s = .next
          { s with
            radioState := .idle
            rxTimer := ⟨false, s.rxTimer.value⟩
            trace := s.trace ++ [.tmr (.stop .rx), standbyOutput] ++ s.supplied 4 .rxError })) ∧
    (s.radioState = .cad → exec (.irqCadDone detected) s = .next
      { s with
        radioState := .idle
        trace := s.trace ++ [standbyOutput] ++ s.supplied 6 (.cadDone detected) })

/-- R355; what the Register Interface reports and reads is the environment's (log 3). -/
def Obligations.RxDoneReadsThePayloadAndReportsIt : Prop :=
  ∀ s : State, s.radioState = .rxRunning → s.lp.dir = .none →
    let n : Byte := (s.answer 0).setWidth 8
    let start : Byte := (s.answer 1).setWidth 8
    let payload := (List.range n.toNat).map fun i => (s.answer (2 + i)).setWidth 8
    let done : Callback := .rxDone payload (n.setWidth 16) ((s.answer (2 + n.toNat)).setWidth 16)
      ((s.answer (3 + n.toNat)).setWidth 8)
    exec .irqRxDone s = .next
      { s.skipAnswers (5 + n.toNat) with
        radioState := if s.mp.rxContinuous then .rxRunning else .idle
        rxTimer := ⟨false, s.rxTimer.value⟩
        trace := s.trace ++ [.tmr (.stop .rx)] ++ (if s.mp.rxContinuous then [] else [standbyOutput]) ++
          [.ri .getRxBufferStatus] ++ (if n = 0 then [] else [.ri (.readBuffer start n)]) ++ [.ri .getPacketStatus] ++
          s.supplied 2 done }

/-- R353, R362, R363, R365 to R367, R352: what the block's state does not expect is dropped; three events never have an
effect; reserved bits raise `BadEvent`. -/
def Obligations.UnexpectedEventsAndExpiriesAreDropped : Prop :=
  ∀ (s : State) (d : Bool) (v : U16),
    (∀ i ∈ [Instr.irqPreambleDetected, .irqHeaderValid, .irqLrFhssHop], exec i s = .next s) ∧
    exec (.irqReserved v) s = .next { s with fault := s.fault ||| 0x8 } ∧
    (s.radioState ≠ .txRunning → exec .irqTxDone s = .next s) ∧
    (s.radioState ≠ .rxRunning ∨ s.lp.dir ≠ .none →
      ∀ i ∈ [Instr.irqRxDone, .irqCrcError, .irqHeaderError], exec i s = .next s) ∧
    (s.radioState ≠ .txRunning → s.radioState ≠ .rxRunning → exec .irqTimeout s = .next s) ∧
    (s.radioState ≠ .cad → exec (.irqCadDone d) s = .next s) ∧
    (s.radioState ≠ .rxRunning ∨ s.lp.dir ≠ .rx ∨ s.lp.phase ≠ .headerPending → exec .irqSyncWordValid s = .next s) ∧
    (s.txTimer.armed = false → exec .expireTxTimer s = .next s) ∧
    (s.rxTimer.armed = false → exec .expireRxTimer s = .next s) ∧
    (s.chunkTimer.armed = false → exec .expireChunkTimer s = .next s) ∧
    (s.txTimer.armed = true → s.radioState ≠ .txRunning →
      exec .expireTxTimer s = .next { s with txTimer := ⟨false, s.txTimer.value⟩ }) ∧
    (s.rxTimer.armed = true → s.radioState ≠ .rxRunning →
      exec .expireRxTimer s = .next { s with rxTimer := ⟨false, s.rxTimer.value⟩ }) ∧
    (s.chunkTimer.armed = true → ¬(s.radioState = .txRunning ∧ s.lp.dir = .tx ∧ s.lp.phase = .streaming) →
      ¬(s.radioState = .rxRunning ∧ s.lp.dir = .rx ∧ (s.lp.phase = .streaming ∨ s.lp.phase = .lastChunk)) →
      exec .expireChunkTimer s = .next { s with chunkTimer := ⟨false, s.chunkTimer.value⟩ })

/-! ## Long packets -/

/-- R280, R281: the first chunk of a long transmit. The application's bytes are the environment's answers. -/
def Obligations.TransmitLongPacketWritesTheFirstChunk : Prop :=
  ∀ (s : State) (size : U16) (timeout : U32), s.initialised = true → s.mp.txValid = true → s.lp.enable = true →
    size.toNat ≤ s.lp.maxLen.toNat → (s.lp.lenW = .w1 → size.toNat ≤ 255) → (s.lp.lenW = .w0 → size = s.lp.fixedLen) →
    let s0 := s.fromIdle
    let total := lenBytesOf s.lp.lenW + size.toNat + crcBytesOf s.lp.crcW
    let n := if total ≤ 255 then size.toNat else 255 - lenBytesOf s.lp.lenW - crcBytesOf s.lp.crcW
    let last := decide (n = size.toNat)
    let hp := lenBytes s.lp.lenW size ++ s.nextBytes n
    let crc := crcOver s.lp s.lp.crcSeed hp
    let plain := hp ++ (if last then trailerOf s.lp crc else [])
    let w := whitened s.lp s.lp.whiteSeed plain
    let ms := lpChunkMs plain.length s.lp.bitrate
    exec (.transmitLongPacket size timeout true) s = .next
      { (s0.skipAnswers n).useRadioBuffer with
        radioState := .txRunning
        irqQ := []
        irqMaskShadow := 0x0201
        txTimer := ⟨true, timeout⟩
        chunkTimer := if last then s0.chunkTimer else ⟨true, ms⟩
        mp := { s.mp with payloadLen := BitVec.ofNat 16 total }
        lp := { s0.lp with
          whiteLfsr := w.2, crcLfsr := crc, dir := .tx, phase := if last then .lastChunk else .streaming, longMode := true
          chunkCb := true, payloadLen := size, remaining := size - BitVec.ofNat 16 n, total := BitVec.ofNat 32 total
          bufOffset := BitVec.ofNat 8 plain.length }
        trace := s0.trace ++ [.ri (.setDioIrqParams 0x0201), .ri (.setSwitch s.mp.antSel .tx),
            rfwPacket s.mp (BitVec.ofNat 16 total)] ++
          (if n = 0 then [] else [.cb (.getNextChunk (BitVec.ofNat 16 n))]) ++ ringWrite 0 w.1 ++
          (if last then [] else [.tmr (.setValue .chunk ms), .tmr (.start .chunk)]) ++
          [.tmr (.setValue .tx timeout), .tmr (.start .tx), .ri (.setTx 0), .response statusOk] }

/-- R282, R281, R367: a later chunk of a long transmit. `GetNextChunk` is emitted whatever `LP.ChunkCb` holds: the model's reading
(log 16). -/
def Obligations.ChunkExpiryWritesTheNextTransmitChunk : Prop :=
  ∀ s : State, s.chunkTimer.armed = true → s.radioState = .txRunning → s.lp.dir = .tx → s.lp.phase = .streaming →
    let n := min 128 s.lp.remaining.toNat
    let last := decide (n = s.lp.remaining.toNat)
    let d := s.nextBytes n
    let crc := crcOver s.lp s.lp.crcLfsr d
    let plain := d ++ (if last then trailerOf s.lp crc else [])
    let w := whitened s.lp s.lp.whiteLfsr plain
    let ms := lpChunkMs plain.length s.lp.bitrate
    exec .expireChunkTimer s = .next
      { (s.skipAnswers n).useRadioBuffer with
        chunkTimer := if last then ⟨false, s.chunkTimer.value⟩ else ⟨true, ms⟩
        lp := { s.lp with
          whiteLfsr := w.2, crcLfsr := crc, phase := if last then .lastChunk else .streaming
          remaining := s.lp.remaining - BitVec.ofNat 16 n, bufOffset := s.lp.bufOffset + BitVec.ofNat 8 plain.length }
        trace := s.trace ++ (if n = 0 then [] else [.cb (.getNextChunk (BitVec.ofNat 16 n))]) ++
          ringWrite s.lp.bufOffset w.1 ++
          (if last then [] else [.tmr (.setValue .chunk ms), .tmr (.start .chunk)]) }

/-- R290, R291, R294, R295: the header procedure. Bit 0 of the poll's answer is `Arrived` (log 3). -/
def Obligations.SyncWordValidRunsTheHeaderProcedure : Prop :=
  ∀ s : State, s.radioState = .rxRunning → s.lp.dir = .rx → s.lp.phase = .headerPending →
    let w := lenBytesOf s.lp.lenW
    let seeded : State := { s with lp := { s.lp with whiteLfsr := s.lp.whiteSeed, crcLfsr := s.lp.crcSeed } }
    let accept := fun (u : State) (len : U16) =>
      if s.lp.maxLen.toNat < len.toNat then u.receiveEnded 4 .rxError
      else State.chunkScheduled
        { u with
          lp := { u.lp with
            payloadLen := len, remaining := len, total := BitVec.ofNat 32 (w + len.toNat + crcBytesOf s.lp.crcW)
            bufOffset := BitVec.ofNat 8 w } }
    (w = 0 → exec .irqSyncWordValid s = .next (accept seeded s.lp.fixedLen)) ∧
    (w ≠ 0 →
      let polled := (seeded.skipAnswers 1).output
        [.ri (.pollRxBytes (BitVec.ofNat 8 w) (lpHeaderWaitMs w s.lp.bitrate))]
      let read := (polled.skipAnswers w).output [.ri (.readBuffer 0 (BitVec.ofNat 8 w))]
      let h := whitened s.lp s.lp.whiteSeed (polled.nextBytes w)
      let len : U16 := if s.lp.lenW = .w1 then (h.1.getD 0 0).setWidth 16 else h.1.getD 0 0 ++ h.1.getD 1 0
      ((s.answer 0).getLsbD 0 = false → exec .irqSyncWordValid s = .next (polled.receiveEnded 3 .rxTimeout)) ∧
      ((s.answer 0).getLsbD 0 = true → exec .irqSyncWordValid s = .next
        (accept { read with lp := { read.lp with whiteLfsr := h.2, crcLfsr := crcOver s.lp s.lp.crcSeed h.1 } } len)))

/-- R292, R291, R293, R294, R367: the receive chunk rule. -/
def Obligations.ChunkExpiryReadsTheNextReceiveChunk : Prop :=
  ∀ s : State, s.chunkTimer.armed = true → s.radioState = .rxRunning → s.lp.dir = .rx →
    (s.lp.phase = .streaming ∨ s.lp.phase = .lastChunk) →
    let final := decide (s.lp.phase = .lastChunk)
    let n := if final then s.lp.remaining.toNat else 128
    let m := if final then n + crcBytesOf s.lp.crcW else n
    let b := whitened s.lp s.lp.whiteLfsr (s.nextBytes m)
    let crc := crcOver s.lp s.lp.crcLfsr (b.1.take n)
    let off := s.lp.rxPayloadOffset.toNat
    let stage := s.rxStage.take off ++ b.1.take n ++ s.rxStage.drop (off + n)
    let stored := s.lp.rxPayloadOffset + BitVec.ofNat 16 n
    let deliver := decide (s.lp.longMode = true ∧ 0 < n)
    let read : State :=
      { s.skipAnswers m with
        chunkTimer := ⟨false, s.chunkTimer.value⟩
        lp := { s.lp with bufOffset := s.lp.bufOffset + BitVec.ofNat 8 m, whiteLfsr := b.2, crcLfsr := crc }
        trace := s.trace ++ (if m = 0 then [] else [.ri (.readBuffer s.lp.bufOffset (BitVec.ofNat 8 m))]) }
    let staged : State :=
      { read with
        rxStage := stage
        lp := { read.lp with
          rxPayloadOffset := if deliver then 0 else stored, remaining := s.lp.remaining - BitVec.ofNat 16 n }
        trace := read.trace ++
          (if deliver && s.lp.chunkCb then [.cb (.storeChunk (stage.take stored.toNat) stored)] else []) }
    (¬(off + n < 255) → exec .expireChunkTimer s = .next (read.receiveEnded 4 .rxError)) ∧
    (off + n < 255 → s.lp.phase = .streaming → exec .expireChunkTimer s = .next staged.chunkScheduled) ∧
    (off + n < 255 → s.lp.phase = .lastChunk → b.1.drop n ≠ trailerOf s.lp crc →
      exec .expireChunkTimer s = .next (staged.receiveEnded 4 .rxError)) ∧
    (off + n < 255 → s.lp.phase = .lastChunk → b.1.drop n = trailerOf s.lp crc →
      exec .expireChunkTimer s = .next staged.receiveDone)

/-! ## Properties of the streams -/

/-- R298: whitening twice from one register value gives the input back, the register after it depends on the length
alone, and without re-seeding the second run need not give the input back. -/
def Obligations.WhiteningIsAnInvolutionFromOneSeed : Prop :=
  (∀ (l : LongPacket) (x : List Byte), (l.whiteRun (l.whiteRun x).1).1 = x) ∧
  (∀ (l : LongPacket) (x y : List Byte), x.length = y.length →
    (l.whiteRun x).2.whiteLfsr = (l.whiteRun y).2.whiteLfsr) ∧
  ∃ (l : LongPacket) (x : List Byte), ((l.whiteRun x).2.whiteRun (l.whiteRun x).1).1 ≠ x

/-- R284: the bytes a long transmit writes to the ring, over all its chunks, are the frame of its payload. The application's bytes
are the environment's answers (log 3); that the writes land before the transceiver needs them is assumed of it (log 23). -/
def Obligations.ALongTransmitWritesTheWholeFrame : Prop :=
  ∀ (s : State) (payload : List Byte) (size : U16) (timeout : U32) (rest : List U32) (k : Nat),
    s.initialised = true → s.mp.txValid = true → s.lp.enable = true → size.toNat = payload.length →
    payload.length ≤ s.lp.maxLen.toNat → (s.lp.lenW = .w1 → payload.length ≤ 255) →
    (s.lp.lenW = .w0 → size = s.lp.fixedLen) →
    s.env.answers = payload.map (fun b => b.setWidth 32) ++ rest → payload.length ≤ 128 * k →
    ∃ t os, exec (.transmitLongPacket size timeout true) s = .next t ∧
      (t.afterExpiries k).trace = s.trace ++ os ∧ ringBytes os = frameBytes s.lp size payload ∧
      (t.afterExpiries k).lp.phase = .lastChunk ∧ (t.afterExpiries k).lp.remaining = 0

/-- R297: a frame of a payload, read back chunk by chunk by a receive with the same configuration, ends in `RxDone` with the
payload: through `CB.StoreChunk` in long mode, in the callback itself otherwise. The bytes on the air are the environment's answers
(log 3); that the ring holds them when it is read is assumed of the transceiver (log 23). -/
def Obligations.AReceiveOfAFrameDeliversItsPayload : Prop :=
  ∀ (s : State) (payload : List Byte) (size : U16) (timeout : U32) (boosted : Bool) (rssi snr kind : U32)
    (rest : List U32) (k : Nat),
    s.initialised = true → s.mp.rxValid = true → s.lp.enable = true → s.cbMask.getLsbD 2 = true →
    size.toNat = payload.length → payload.length ≤ s.lp.maxLen.toNat → (s.lp.lenW = .w1 → payload.length ≤ 255) →
    (s.lp.lenW = .w0 → size = s.lp.fixedLen) →
    s.env.answers = (if s.lp.lenW = .w0 then [] else [1]) ++ (frameBytes s.lp size payload).map (fun b => b.setWidth 32) ++
      [rssi, snr, kind] ++ rest →
    0 < k → payload.length ≤ 128 * k →
    let finish := fun t : State => (t.after .irqSyncWordValid).afterExpiries k
    (∃ t os, exec (.receiveLongPacket boosted timeout true) s = .next t ∧ storedBytes os = payload ∧
      (finish t).trace = s.trace ++ os ++ [.cb (.rxDone [] size (rssi.setWidth 16) (snr.setWidth 8))] ∧
      (finish t).radioState = .idle) ∧
    (payload.length ≤ 254 → ∃ t os, exec (.rx timeout) s = .next t ∧
      (finish t).trace = s.trace ++ os ++ [.cb (.rxDone payload size (rssi.setWidth 16) (snr.setWidth 8))] ∧
      (finish t).radioState = .idle)

/-- R340, R342: the encoder's bits follow the recurrence from 0, one position late; the trailer holds the final state; the
encoder is injective. -/
def Obligations.BpskEncoderFollowsTheRecurrence : Prop :=
  (∀ d : List Byte,
    (bpskEncode d).length = d.length + 1 ∧ bitAt (bpskEncode d) 0 = false ∧
    (∀ j, j < 8 * d.length → bitAt (bpskEncode d) (j + 1) = (bitAt (bpskEncode d) j ^^ !(bitAt d j))) ∧
    (bpskEncode d).getD d.length 0 = if bitAt (bpskEncode d) (8 * d.length) then 0xC0 else 0x20) ∧
  ∀ d e : List Byte, bpskEncode d = bpskEncode e → d = e

/-- R273, R274, R341: the check values the spec gives for the whitening unit, the CRC unit and the encoder. -/
def Obligations.StreamUnitsGiveTheSpecsCheckValues : Prop :=
  (whiteBytes 0x1FF (List.replicate 16 0)).1 =
    [0xFF, 0xE1, 0x1D, 0x9A, 0xED, 0x85, 0x33, 0x24, 0xEA, 0x7A, 0xD2, 0x39, 0x70, 0x97, 0x57, 0x0A] ∧
  (whiteBytes 0x1FF [0]).2 = 0x1E1 ∧ (whiteBytes 0x1FF [0, 0, 0, 0]).2 = 0x1ED ∧
  crcBytes 0x1021 0xFFFF [0x31, 0x32, 0x33, 0x34, 0x35, 0x36, 0x37, 0x38, 0x39] = 0x29B1 ∧
  crcBytes 0x1021 0x1D0F [0x31, 0x32, 0x33, 0x34, 0x35, 0x36, 0x37, 0x38, 0x39] = 0xE5CC ∧
  crcBytes 0x8005 0xFFFF [0x31, 0x32, 0x33, 0x34, 0x35, 0x36, 0x37, 0x38, 0x39] = 0xAEE7 ∧
  crcBytes 0x8005 0 [0x31, 0x32, 0x33, 0x34, 0x35, 0x36, 0x37, 0x38, 0x39] = 0xFEE8 ∧
  crcBytes 0x1021 0 [0x80] = 0x9188 ∧ crcBytes 0x1021 0 [0x01] = 0x1021 ∧
  bpskEncode [0x00] = [0x55, 0x20] ∧ bpskEncode [0x0F, 0xF0] = [0x50, 0x05, 0x20] ∧
  bpskEncode [0x12, 0x34, 0x56] = [0x5B, 0x46, 0x98, 0xC0] ∧ bpskEncode [] = [0x20]

/-- R74, R75: byte `i` of a run goes to, or comes from, the address `i` further on, modulo 256 in the ring and 2^16 in the
registers. -/
def Obligations.ByteRunsWrapAtTheEndOfTheirSpace : Prop :=
  ∀ (offset n : Byte) (addr : U16) (buf : List Byte) (i : Nat), buf.length = n.toNat → i < n.toNat →
    (ringWrites (.writeBuffer offset buf n))[i]? =
      some (BitVec.ofNat 8 ((offset.toNat + i) % 256), buf.getD i 0) ∧
    (ringReads (.readBuffer offset n))[i]? = some (BitVec.ofNat 8 ((offset.toNat + i) % 256)) ∧
    (regWrites (.writeRegisters addr buf n))[i]? =
      some (BitVec.ofNat 16 ((addr.toNat + i) % 65536), buf.getD i 0) ∧
    (regReads (.readRegisters addr n))[i]? = some (BitVec.ofNat 16 ((addr.toNat + i) % 65536))

end
end

