-- ==== Sys2Proof/Laws/State.lean ====
section
/-! SUPPORT. One lemma per field of `State` per shared update, so that no proof unfolds a record update. -/

namespace Sys2Proof.Machine

@[simp] theorem State.emit_initialised (s : State) (o : Output) : (s.emit o).initialised = s.initialised := rfl
@[simp] theorem State.emit_radioState (s : State) (o : Output) : (s.emit o).radioState = s.radioState := rfl
@[simp] theorem State.emit_cbMask (s : State) (o : Output) : (s.emit o).cbMask = s.cbMask := rfl
@[simp] theorem State.emit_fault (s : State) (o : Output) : (s.emit o).fault = s.fault := rfl
@[simp] theorem State.emit_irqMaskShadow (s : State) (o : Output) : (s.emit o).irqMaskShadow = s.irqMaskShadow := rfl
@[simp] theorem State.emit_irqQ (s : State) (o : Output) : (s.emit o).irqQ = s.irqQ := rfl
@[simp] theorem State.emit_txTimer (s : State) (o : Output) : (s.emit o).txTimer = s.txTimer := rfl
@[simp] theorem State.emit_rxTimer (s : State) (o : Output) : (s.emit o).rxTimer = s.rxTimer := rfl
@[simp] theorem State.emit_chunkTimer (s : State) (o : Output) : (s.emit o).chunkTimer = s.chunkTimer := rfl
@[simp] theorem State.emit_mp (s : State) (o : Output) : (s.emit o).mp = s.mp := rfl
@[simp] theorem State.emit_lp (s : State) (o : Output) : (s.emit o).lp = s.lp := rfl
@[simp] theorem State.emit_rxStage (s : State) (o : Output) : (s.emit o).rxStage = s.rxStage := rfl
@[simp] theorem State.emit_radioBuffer (s : State) (o : Output) : (s.emit o).radioBuffer = s.radioBuffer := rfl
@[simp] theorem State.emit_env (s : State) (o : Output) : (s.emit o).env = s.env := rfl
@[simp] theorem State.emit_trace (s : State) (o : Output) : (s.emit o).trace = s.trace ++ [o] := rfl

@[simp] theorem State.ri_initialised (s : State) (op : RiOp) : (s.ri op).initialised = s.initialised := rfl
@[simp] theorem State.ri_radioState (s : State) (op : RiOp) : (s.ri op).radioState = s.radioState := rfl
@[simp] theorem State.ri_cbMask (s : State) (op : RiOp) : (s.ri op).cbMask = s.cbMask := rfl
@[simp] theorem State.ri_fault (s : State) (op : RiOp) : (s.ri op).fault = s.fault := rfl
@[simp] theorem State.ri_irqMaskShadow (s : State) (op : RiOp) : (s.ri op).irqMaskShadow = s.irqMaskShadow := rfl
@[simp] theorem State.ri_irqQ (s : State) (op : RiOp) : (s.ri op).irqQ = s.irqQ := rfl
@[simp] theorem State.ri_txTimer (s : State) (op : RiOp) : (s.ri op).txTimer = s.txTimer := rfl
@[simp] theorem State.ri_rxTimer (s : State) (op : RiOp) : (s.ri op).rxTimer = s.rxTimer := rfl
@[simp] theorem State.ri_chunkTimer (s : State) (op : RiOp) : (s.ri op).chunkTimer = s.chunkTimer := rfl
@[simp] theorem State.ri_mp (s : State) (op : RiOp) : (s.ri op).mp = s.mp := rfl
@[simp] theorem State.ri_lp (s : State) (op : RiOp) : (s.ri op).lp = s.lp := rfl
@[simp] theorem State.ri_rxStage (s : State) (op : RiOp) : (s.ri op).rxStage = s.rxStage := rfl
@[simp] theorem State.ri_radioBuffer (s : State) (op : RiOp) : (s.ri op).radioBuffer = s.radioBuffer := rfl
@[simp] theorem State.ri_env (s : State) (op : RiOp) : (s.ri op).env = s.env := rfl
@[simp] theorem State.ri_trace (s : State) (op : RiOp) : (s.ri op).trace = s.trace ++ [.ri op] := rfl

@[simp] theorem State.respond_initialised (s : State) (p : List Byte) : (s.respond p).initialised = s.initialised := rfl
@[simp] theorem State.respond_radioState (s : State) (p : List Byte) : (s.respond p).radioState = s.radioState := rfl
@[simp] theorem State.respond_cbMask (s : State) (p : List Byte) : (s.respond p).cbMask = s.cbMask := rfl
@[simp] theorem State.respond_fault (s : State) (p : List Byte) : (s.respond p).fault = s.fault := rfl
@[simp] theorem State.respond_irqMaskShadow (s : State) (p : List Byte) : (s.respond p).irqMaskShadow = s.irqMaskShadow := rfl
@[simp] theorem State.respond_irqQ (s : State) (p : List Byte) : (s.respond p).irqQ = s.irqQ := rfl
@[simp] theorem State.respond_txTimer (s : State) (p : List Byte) : (s.respond p).txTimer = s.txTimer := rfl
@[simp] theorem State.respond_rxTimer (s : State) (p : List Byte) : (s.respond p).rxTimer = s.rxTimer := rfl
@[simp] theorem State.respond_chunkTimer (s : State) (p : List Byte) : (s.respond p).chunkTimer = s.chunkTimer := rfl
@[simp] theorem State.respond_mp (s : State) (p : List Byte) : (s.respond p).mp = s.mp := rfl
@[simp] theorem State.respond_lp (s : State) (p : List Byte) : (s.respond p).lp = s.lp := rfl
@[simp] theorem State.respond_rxStage (s : State) (p : List Byte) : (s.respond p).rxStage = s.rxStage := rfl
@[simp] theorem State.respond_radioBuffer (s : State) (p : List Byte) : (s.respond p).radioBuffer = s.radioBuffer := rfl
@[simp] theorem State.respond_env (s : State) (p : List Byte) : (s.respond p).env = s.env := rfl
@[simp] theorem State.respond_trace (s : State) (p : List Byte) : (s.respond p).trace = s.trace ++ [.response p] := rfl

@[simp] theorem State.setRadio_initialised (s : State) (r : RadioState) : (s.setRadio r).initialised = s.initialised := rfl
@[simp] theorem State.setRadio_radioState (s : State) (r : RadioState) : (s.setRadio r).radioState = r := rfl
@[simp] theorem State.setRadio_cbMask (s : State) (r : RadioState) : (s.setRadio r).cbMask = s.cbMask := rfl
@[simp] theorem State.setRadio_fault (s : State) (r : RadioState) : (s.setRadio r).fault = s.fault := rfl
@[simp] theorem State.setRadio_irqMaskShadow (s : State) (r : RadioState) : (s.setRadio r).irqMaskShadow = s.irqMaskShadow := rfl
@[simp] theorem State.setRadio_irqQ (s : State) (r : RadioState) : (s.setRadio r).irqQ = s.irqQ := rfl
@[simp] theorem State.setRadio_txTimer (s : State) (r : RadioState) : (s.setRadio r).txTimer = s.txTimer := rfl
@[simp] theorem State.setRadio_rxTimer (s : State) (r : RadioState) : (s.setRadio r).rxTimer = s.rxTimer := rfl
@[simp] theorem State.setRadio_chunkTimer (s : State) (r : RadioState) : (s.setRadio r).chunkTimer = s.chunkTimer := rfl
@[simp] theorem State.setRadio_mp (s : State) (r : RadioState) : (s.setRadio r).mp = s.mp := rfl
@[simp] theorem State.setRadio_lp (s : State) (r : RadioState) : (s.setRadio r).lp = s.lp := rfl
@[simp] theorem State.setRadio_rxStage (s : State) (r : RadioState) : (s.setRadio r).rxStage = s.rxStage := rfl
@[simp] theorem State.setRadio_radioBuffer (s : State) (r : RadioState) : (s.setRadio r).radioBuffer = s.radioBuffer := rfl
@[simp] theorem State.setRadio_env (s : State) (r : RadioState) : (s.setRadio r).env = s.env := rfl
@[simp] theorem State.setRadio_trace (s : State) (r : RadioState) : (s.setRadio r).trace = s.trace := rfl

@[simp] theorem State.setIrqQ_initialised (s : State) (q : List IrqEvent) : (s.setIrqQ q).initialised = s.initialised := rfl
@[simp] theorem State.setIrqQ_radioState (s : State) (q : List IrqEvent) : (s.setIrqQ q).radioState = s.radioState := rfl
@[simp] theorem State.setIrqQ_cbMask (s : State) (q : List IrqEvent) : (s.setIrqQ q).cbMask = s.cbMask := rfl
@[simp] theorem State.setIrqQ_fault (s : State) (q : List IrqEvent) : (s.setIrqQ q).fault = s.fault := rfl
@[simp] theorem State.setIrqQ_irqMaskShadow (s : State) (q : List IrqEvent) : (s.setIrqQ q).irqMaskShadow = s.irqMaskShadow := rfl
@[simp] theorem State.setIrqQ_irqQ (s : State) (q : List IrqEvent) : (s.setIrqQ q).irqQ = q := rfl
@[simp] theorem State.setIrqQ_txTimer (s : State) (q : List IrqEvent) : (s.setIrqQ q).txTimer = s.txTimer := rfl
@[simp] theorem State.setIrqQ_rxTimer (s : State) (q : List IrqEvent) : (s.setIrqQ q).rxTimer = s.rxTimer := rfl
@[simp] theorem State.setIrqQ_chunkTimer (s : State) (q : List IrqEvent) : (s.setIrqQ q).chunkTimer = s.chunkTimer := rfl
@[simp] theorem State.setIrqQ_mp (s : State) (q : List IrqEvent) : (s.setIrqQ q).mp = s.mp := rfl
@[simp] theorem State.setIrqQ_lp (s : State) (q : List IrqEvent) : (s.setIrqQ q).lp = s.lp := rfl
@[simp] theorem State.setIrqQ_rxStage (s : State) (q : List IrqEvent) : (s.setIrqQ q).rxStage = s.rxStage := rfl
@[simp] theorem State.setIrqQ_radioBuffer (s : State) (q : List IrqEvent) : (s.setIrqQ q).radioBuffer = s.radioBuffer := rfl
@[simp] theorem State.setIrqQ_env (s : State) (q : List IrqEvent) : (s.setIrqQ q).env = s.env := rfl
@[simp] theorem State.setIrqQ_trace (s : State) (q : List IrqEvent) : (s.setIrqQ q).trace = s.trace := rfl

@[simp] theorem State.setIrqMask_initialised (s : State) (m : U16) : (s.setIrqMask m).initialised = s.initialised := rfl
@[simp] theorem State.setIrqMask_radioState (s : State) (m : U16) : (s.setIrqMask m).radioState = s.radioState := rfl
@[simp] theorem State.setIrqMask_cbMask (s : State) (m : U16) : (s.setIrqMask m).cbMask = s.cbMask := rfl
@[simp] theorem State.setIrqMask_fault (s : State) (m : U16) : (s.setIrqMask m).fault = s.fault := rfl
@[simp] theorem State.setIrqMask_irqMaskShadow (s : State) (m : U16) : (s.setIrqMask m).irqMaskShadow = m := rfl
@[simp] theorem State.setIrqMask_irqQ (s : State) (m : U16) : (s.setIrqMask m).irqQ = s.irqQ := rfl
@[simp] theorem State.setIrqMask_txTimer (s : State) (m : U16) : (s.setIrqMask m).txTimer = s.txTimer := rfl
@[simp] theorem State.setIrqMask_rxTimer (s : State) (m : U16) : (s.setIrqMask m).rxTimer = s.rxTimer := rfl
@[simp] theorem State.setIrqMask_chunkTimer (s : State) (m : U16) : (s.setIrqMask m).chunkTimer = s.chunkTimer := rfl
@[simp] theorem State.setIrqMask_mp (s : State) (m : U16) : (s.setIrqMask m).mp = s.mp := rfl
@[simp] theorem State.setIrqMask_lp (s : State) (m : U16) : (s.setIrqMask m).lp = s.lp := rfl
@[simp] theorem State.setIrqMask_rxStage (s : State) (m : U16) : (s.setIrqMask m).rxStage = s.rxStage := rfl
@[simp] theorem State.setIrqMask_radioBuffer (s : State) (m : U16) : (s.setIrqMask m).radioBuffer = s.radioBuffer := rfl
@[simp] theorem State.setIrqMask_env (s : State) (m : U16) : (s.setIrqMask m).env = s.env := rfl
@[simp] theorem State.setIrqMask_trace (s : State) (m : U16) : (s.setIrqMask m).trace = s.trace := rfl

@[simp] theorem State.setMp_initialised (s : State) (m : ModemParams) : (s.setMp m).initialised = s.initialised := rfl
@[simp] theorem State.setMp_radioState (s : State) (m : ModemParams) : (s.setMp m).radioState = s.radioState := rfl
@[simp] theorem State.setMp_cbMask (s : State) (m : ModemParams) : (s.setMp m).cbMask = s.cbMask := rfl
@[simp] theorem State.setMp_fault (s : State) (m : ModemParams) : (s.setMp m).fault = s.fault := rfl
@[simp] theorem State.setMp_irqMaskShadow (s : State) (m : ModemParams) : (s.setMp m).irqMaskShadow = s.irqMaskShadow := rfl
@[simp] theorem State.setMp_irqQ (s : State) (m : ModemParams) : (s.setMp m).irqQ = s.irqQ := rfl
@[simp] theorem State.setMp_txTimer (s : State) (m : ModemParams) : (s.setMp m).txTimer = s.txTimer := rfl
@[simp] theorem State.setMp_rxTimer (s : State) (m : ModemParams) : (s.setMp m).rxTimer = s.rxTimer := rfl
@[simp] theorem State.setMp_chunkTimer (s : State) (m : ModemParams) : (s.setMp m).chunkTimer = s.chunkTimer := rfl
@[simp] theorem State.setMp_mp (s : State) (m : ModemParams) : (s.setMp m).mp = m := rfl
@[simp] theorem State.setMp_lp (s : State) (m : ModemParams) : (s.setMp m).lp = s.lp := rfl
@[simp] theorem State.setMp_rxStage (s : State) (m : ModemParams) : (s.setMp m).rxStage = s.rxStage := rfl
@[simp] theorem State.setMp_radioBuffer (s : State) (m : ModemParams) : (s.setMp m).radioBuffer = s.radioBuffer := rfl
@[simp] theorem State.setMp_env (s : State) (m : ModemParams) : (s.setMp m).env = s.env := rfl
@[simp] theorem State.setMp_trace (s : State) (m : ModemParams) : (s.setMp m).trace = s.trace := rfl

@[simp] theorem State.setLp_initialised (s : State) (l : LongPacket) : (s.setLp l).initialised = s.initialised := rfl
@[simp] theorem State.setLp_radioState (s : State) (l : LongPacket) : (s.setLp l).radioState = s.radioState := rfl
@[simp] theorem State.setLp_cbMask (s : State) (l : LongPacket) : (s.setLp l).cbMask = s.cbMask := rfl
@[simp] theorem State.setLp_fault (s : State) (l : LongPacket) : (s.setLp l).fault = s.fault := rfl
@[simp] theorem State.setLp_irqMaskShadow (s : State) (l : LongPacket) : (s.setLp l).irqMaskShadow = s.irqMaskShadow := rfl
@[simp] theorem State.setLp_irqQ (s : State) (l : LongPacket) : (s.setLp l).irqQ = s.irqQ := rfl
@[simp] theorem State.setLp_txTimer (s : State) (l : LongPacket) : (s.setLp l).txTimer = s.txTimer := rfl
@[simp] theorem State.setLp_rxTimer (s : State) (l : LongPacket) : (s.setLp l).rxTimer = s.rxTimer := rfl
@[simp] theorem State.setLp_chunkTimer (s : State) (l : LongPacket) : (s.setLp l).chunkTimer = s.chunkTimer := rfl
@[simp] theorem State.setLp_mp (s : State) (l : LongPacket) : (s.setLp l).mp = s.mp := rfl
@[simp] theorem State.setLp_lp (s : State) (l : LongPacket) : (s.setLp l).lp = l := rfl
@[simp] theorem State.setLp_rxStage (s : State) (l : LongPacket) : (s.setLp l).rxStage = s.rxStage := rfl
@[simp] theorem State.setLp_radioBuffer (s : State) (l : LongPacket) : (s.setLp l).radioBuffer = s.radioBuffer := rfl
@[simp] theorem State.setLp_env (s : State) (l : LongPacket) : (s.setLp l).env = s.env := rfl
@[simp] theorem State.setLp_trace (s : State) (l : LongPacket) : (s.setLp l).trace = s.trace := rfl

@[simp] theorem State.raiseFault_initialised (s : State) (b : FaultBit) : (s.raiseFault b).initialised = s.initialised := rfl
@[simp] theorem State.raiseFault_radioState (s : State) (b : FaultBit) : (s.raiseFault b).radioState = s.radioState := rfl
@[simp] theorem State.raiseFault_cbMask (s : State) (b : FaultBit) : (s.raiseFault b).cbMask = s.cbMask := rfl
@[simp] theorem State.raiseFault_fault (s : State) (b : FaultBit) : (s.raiseFault b).fault = s.fault ||| faultMask b := rfl
@[simp] theorem State.raiseFault_irqMaskShadow (s : State) (b : FaultBit) : (s.raiseFault b).irqMaskShadow = s.irqMaskShadow := rfl
@[simp] theorem State.raiseFault_irqQ (s : State) (b : FaultBit) : (s.raiseFault b).irqQ = s.irqQ := rfl
@[simp] theorem State.raiseFault_txTimer (s : State) (b : FaultBit) : (s.raiseFault b).txTimer = s.txTimer := rfl
@[simp] theorem State.raiseFault_rxTimer (s : State) (b : FaultBit) : (s.raiseFault b).rxTimer = s.rxTimer := rfl
@[simp] theorem State.raiseFault_chunkTimer (s : State) (b : FaultBit) : (s.raiseFault b).chunkTimer = s.chunkTimer := rfl
@[simp] theorem State.raiseFault_mp (s : State) (b : FaultBit) : (s.raiseFault b).mp = s.mp := rfl
@[simp] theorem State.raiseFault_lp (s : State) (b : FaultBit) : (s.raiseFault b).lp = s.lp := rfl
@[simp] theorem State.raiseFault_rxStage (s : State) (b : FaultBit) : (s.raiseFault b).rxStage = s.rxStage := rfl
@[simp] theorem State.raiseFault_radioBuffer (s : State) (b : FaultBit) : (s.raiseFault b).radioBuffer = s.radioBuffer := rfl
@[simp] theorem State.raiseFault_env (s : State) (b : FaultBit) : (s.raiseFault b).env = s.env := rfl
@[simp] theorem State.raiseFault_trace (s : State) (b : FaultBit) : (s.raiseFault b).trace = s.trace := rfl

@[simp] theorem State.skipAnswers_initialised (s : State) (k : Nat) : (s.skipAnswers k).initialised = s.initialised := rfl
@[simp] theorem State.skipAnswers_radioState (s : State) (k : Nat) : (s.skipAnswers k).radioState = s.radioState := rfl
@[simp] theorem State.skipAnswers_cbMask (s : State) (k : Nat) : (s.skipAnswers k).cbMask = s.cbMask := rfl
@[simp] theorem State.skipAnswers_fault (s : State) (k : Nat) : (s.skipAnswers k).fault = s.fault := rfl
@[simp] theorem State.skipAnswers_irqMaskShadow (s : State) (k : Nat) : (s.skipAnswers k).irqMaskShadow = s.irqMaskShadow := rfl
@[simp] theorem State.skipAnswers_irqQ (s : State) (k : Nat) : (s.skipAnswers k).irqQ = s.irqQ := rfl
@[simp] theorem State.skipAnswers_txTimer (s : State) (k : Nat) : (s.skipAnswers k).txTimer = s.txTimer := rfl
@[simp] theorem State.skipAnswers_rxTimer (s : State) (k : Nat) : (s.skipAnswers k).rxTimer = s.rxTimer := rfl
@[simp] theorem State.skipAnswers_chunkTimer (s : State) (k : Nat) : (s.skipAnswers k).chunkTimer = s.chunkTimer := rfl
@[simp] theorem State.skipAnswers_mp (s : State) (k : Nat) : (s.skipAnswers k).mp = s.mp := rfl
@[simp] theorem State.skipAnswers_lp (s : State) (k : Nat) : (s.skipAnswers k).lp = s.lp := rfl
@[simp] theorem State.skipAnswers_rxStage (s : State) (k : Nat) : (s.skipAnswers k).rxStage = s.rxStage := rfl
@[simp] theorem State.skipAnswers_radioBuffer (s : State) (k : Nat) : (s.skipAnswers k).radioBuffer = s.radioBuffer := rfl
@[simp] theorem State.skipAnswers_env (s : State) (k : Nat) : (s.skipAnswers k).env = { s.env with answers := s.env.answers.drop k, draws := s.env.draws + k } := rfl
@[simp] theorem State.skipAnswers_trace (s : State) (k : Nat) : (s.skipAnswers k).trace = s.trace := rfl

@[simp] theorem State.useRadioBuffer_initialised (s : State) : (s.useRadioBuffer).initialised = s.initialised := rfl
@[simp] theorem State.useRadioBuffer_radioState (s : State) : (s.useRadioBuffer).radioState = s.radioState := rfl
@[simp] theorem State.useRadioBuffer_cbMask (s : State) : (s.useRadioBuffer).cbMask = s.cbMask := rfl
@[simp] theorem State.useRadioBuffer_fault (s : State) : (s.useRadioBuffer).fault = s.fault := rfl
@[simp] theorem State.useRadioBuffer_irqMaskShadow (s : State) : (s.useRadioBuffer).irqMaskShadow = s.irqMaskShadow := rfl
@[simp] theorem State.useRadioBuffer_irqQ (s : State) : (s.useRadioBuffer).irqQ = s.irqQ := rfl
@[simp] theorem State.useRadioBuffer_txTimer (s : State) : (s.useRadioBuffer).txTimer = s.txTimer := rfl
@[simp] theorem State.useRadioBuffer_rxTimer (s : State) : (s.useRadioBuffer).rxTimer = s.rxTimer := rfl
@[simp] theorem State.useRadioBuffer_chunkTimer (s : State) : (s.useRadioBuffer).chunkTimer = s.chunkTimer := rfl
@[simp] theorem State.useRadioBuffer_mp (s : State) : (s.useRadioBuffer).mp = s.mp := rfl
@[simp] theorem State.useRadioBuffer_lp (s : State) : (s.useRadioBuffer).lp = s.lp := rfl
@[simp] theorem State.useRadioBuffer_rxStage (s : State) : (s.useRadioBuffer).rxStage = s.rxStage := rfl
@[simp] theorem State.useRadioBuffer_radioBuffer (s : State) : (s.useRadioBuffer).radioBuffer = (List.range 256).map (Config.freeScratch s.env.draws) := rfl
@[simp] theorem State.useRadioBuffer_env (s : State) : (s.useRadioBuffer).env = { s.env with draws := s.env.draws + 1 } := rfl
@[simp] theorem State.useRadioBuffer_trace (s : State) : (s.useRadioBuffer).trace = s.trace := rfl

@[simp] theorem State.lpTransferReset_initialised (s : State) : (s.lpTransferReset).initialised = s.initialised := rfl
@[simp] theorem State.lpTransferReset_radioState (s : State) : (s.lpTransferReset).radioState = s.radioState := rfl
@[simp] theorem State.lpTransferReset_cbMask (s : State) : (s.lpTransferReset).cbMask = s.cbMask := rfl
@[simp] theorem State.lpTransferReset_fault (s : State) : (s.lpTransferReset).fault = s.fault := rfl
@[simp] theorem State.lpTransferReset_irqMaskShadow (s : State) : (s.lpTransferReset).irqMaskShadow = s.irqMaskShadow := rfl
@[simp] theorem State.lpTransferReset_irqQ (s : State) : (s.lpTransferReset).irqQ = s.irqQ := rfl
@[simp] theorem State.lpTransferReset_txTimer (s : State) : (s.lpTransferReset).txTimer = s.txTimer := rfl
@[simp] theorem State.lpTransferReset_rxTimer (s : State) : (s.lpTransferReset).rxTimer = s.rxTimer := rfl
@[simp] theorem State.lpTransferReset_chunkTimer (s : State) : (s.lpTransferReset).chunkTimer = s.chunkTimer := rfl
@[simp] theorem State.lpTransferReset_mp (s : State) : (s.lpTransferReset).mp = s.mp := rfl
@[simp] theorem State.lpTransferReset_lp (s : State) : (s.lpTransferReset).lp = s.lp.transferReset := rfl
@[simp] theorem State.lpTransferReset_rxStage (s : State) : (s.lpTransferReset).rxStage = s.rxStage := rfl
@[simp] theorem State.lpTransferReset_radioBuffer (s : State) : (s.lpTransferReset).radioBuffer = s.radioBuffer := rfl
@[simp] theorem State.lpTransferReset_env (s : State) : (s.lpTransferReset).env = s.env := rfl
@[simp] theorem State.lpTransferReset_trace (s : State) : (s.lpTransferReset).trace = s.trace := rfl

@[simp] theorem State.standby_initialised (s : State) : (s.standby).initialised = s.initialised := rfl
@[simp] theorem State.standby_radioState (s : State) : (s.standby).radioState = s.radioState := rfl
@[simp] theorem State.standby_cbMask (s : State) : (s.standby).cbMask = s.cbMask := rfl
@[simp] theorem State.standby_fault (s : State) : (s.standby).fault = s.fault := rfl
@[simp] theorem State.standby_irqMaskShadow (s : State) : (s.standby).irqMaskShadow = s.irqMaskShadow := rfl
@[simp] theorem State.standby_irqQ (s : State) : (s.standby).irqQ = s.irqQ := rfl
@[simp] theorem State.standby_txTimer (s : State) : (s.standby).txTimer = s.txTimer := rfl
@[simp] theorem State.standby_rxTimer (s : State) : (s.standby).rxTimer = s.rxTimer := rfl
@[simp] theorem State.standby_chunkTimer (s : State) : (s.standby).chunkTimer = s.chunkTimer := rfl
@[simp] theorem State.standby_mp (s : State) : (s.standby).mp = s.mp := rfl
@[simp] theorem State.standby_lp (s : State) : (s.standby).lp = s.lp := rfl
@[simp] theorem State.standby_rxStage (s : State) : (s.standby).rxStage = s.rxStage := rfl
@[simp] theorem State.standby_radioBuffer (s : State) : (s.standby).radioBuffer = s.radioBuffer := rfl
@[simp] theorem State.standby_env (s : State) : (s.standby).env = s.env := rfl
@[simp] theorem State.standby_trace (s : State) : (s.standby).trace = s.trace ++ [.ri (.setStandby Config.standbyMode)] := rfl

@[simp] theorem State.callback_initialised (s : State) (c : Callback) : (s.callback c).initialised = s.initialised := by unfold State.callback; split <;> rfl
@[simp] theorem State.callback_radioState (s : State) (c : Callback) : (s.callback c).radioState = s.radioState := by unfold State.callback; split <;> rfl
@[simp] theorem State.callback_cbMask (s : State) (c : Callback) : (s.callback c).cbMask = s.cbMask := by unfold State.callback; split <;> rfl
@[simp] theorem State.callback_fault (s : State) (c : Callback) : (s.callback c).fault = s.fault := by unfold State.callback; split <;> rfl
@[simp] theorem State.callback_irqMaskShadow (s : State) (c : Callback) : (s.callback c).irqMaskShadow = s.irqMaskShadow := by unfold State.callback; split <;> rfl
@[simp] theorem State.callback_irqQ (s : State) (c : Callback) : (s.callback c).irqQ = s.irqQ := by unfold State.callback; split <;> rfl
@[simp] theorem State.callback_txTimer (s : State) (c : Callback) : (s.callback c).txTimer = s.txTimer := by unfold State.callback; split <;> rfl
@[simp] theorem State.callback_rxTimer (s : State) (c : Callback) : (s.callback c).rxTimer = s.rxTimer := by unfold State.callback; split <;> rfl
@[simp] theorem State.callback_chunkTimer (s : State) (c : Callback) : (s.callback c).chunkTimer = s.chunkTimer := by unfold State.callback; split <;> rfl
@[simp] theorem State.callback_mp (s : State) (c : Callback) : (s.callback c).mp = s.mp := by unfold State.callback; split <;> rfl
@[simp] theorem State.callback_lp (s : State) (c : Callback) : (s.callback c).lp = s.lp := by unfold State.callback; split <;> rfl
@[simp] theorem State.callback_rxStage (s : State) (c : Callback) : (s.callback c).rxStage = s.rxStage := by unfold State.callback; split <;> rfl
@[simp] theorem State.callback_radioBuffer (s : State) (c : Callback) : (s.callback c).radioBuffer = s.radioBuffer := by unfold State.callback; split <;> rfl
@[simp] theorem State.callback_env (s : State) (c : Callback) : (s.callback c).env = s.env := by unfold State.callback; split <;> rfl
@[simp] theorem State.callback_trace (s : State) (c : Callback) : (s.callback c).trace = s.trace ++ if cbEnabled s.cbMask c then [.cb c] else [] := by
  unfold State.callback; split <;> simp [*]

@[simp] theorem State.riWriteBuffer_initialised (s : State) (o : Byte) (b : List Byte) : (s.riWriteBuffer o b).initialised = s.initialised := by unfold State.riWriteBuffer; split <;> rfl
@[simp] theorem State.riWriteBuffer_radioState (s : State) (o : Byte) (b : List Byte) : (s.riWriteBuffer o b).radioState = s.radioState := by unfold State.riWriteBuffer; split <;> rfl
@[simp] theorem State.riWriteBuffer_cbMask (s : State) (o : Byte) (b : List Byte) : (s.riWriteBuffer o b).cbMask = s.cbMask := by unfold State.riWriteBuffer; split <;> rfl
@[simp] theorem State.riWriteBuffer_fault (s : State) (o : Byte) (b : List Byte) : (s.riWriteBuffer o b).fault = s.fault := by unfold State.riWriteBuffer; split <;> rfl
@[simp] theorem State.riWriteBuffer_irqMaskShadow (s : State) (o : Byte) (b : List Byte) : (s.riWriteBuffer o b).irqMaskShadow = s.irqMaskShadow := by unfold State.riWriteBuffer; split <;> rfl
@[simp] theorem State.riWriteBuffer_irqQ (s : State) (o : Byte) (b : List Byte) : (s.riWriteBuffer o b).irqQ = s.irqQ := by unfold State.riWriteBuffer; split <;> rfl
@[simp] theorem State.riWriteBuffer_txTimer (s : State) (o : Byte) (b : List Byte) : (s.riWriteBuffer o b).txTimer = s.txTimer := by unfold State.riWriteBuffer; split <;> rfl
@[simp] theorem State.riWriteBuffer_rxTimer (s : State) (o : Byte) (b : List Byte) : (s.riWriteBuffer o b).rxTimer = s.rxTimer := by unfold State.riWriteBuffer; split <;> rfl
@[simp] theorem State.riWriteBuffer_chunkTimer (s : State) (o : Byte) (b : List Byte) : (s.riWriteBuffer o b).chunkTimer = s.chunkTimer := by unfold State.riWriteBuffer; split <;> rfl
@[simp] theorem State.riWriteBuffer_mp (s : State) (o : Byte) (b : List Byte) : (s.riWriteBuffer o b).mp = s.mp := by unfold State.riWriteBuffer; split <;> rfl
@[simp] theorem State.riWriteBuffer_lp (s : State) (o : Byte) (b : List Byte) : (s.riWriteBuffer o b).lp = s.lp := by unfold State.riWriteBuffer; split <;> rfl
@[simp] theorem State.riWriteBuffer_rxStage (s : State) (o : Byte) (b : List Byte) : (s.riWriteBuffer o b).rxStage = s.rxStage := by unfold State.riWriteBuffer; split <;> rfl
@[simp] theorem State.riWriteBuffer_radioBuffer (s : State) (o : Byte) (b : List Byte) : (s.riWriteBuffer o b).radioBuffer = s.radioBuffer := by unfold State.riWriteBuffer; split <;> rfl
@[simp] theorem State.riWriteBuffer_env (s : State) (o : Byte) (b : List Byte) : (s.riWriteBuffer o b).env = s.env := by unfold State.riWriteBuffer; split <;> rfl
@[simp] theorem State.riWriteBuffer_trace (s : State) (o : Byte) (b : List Byte) : (s.riWriteBuffer o b).trace = s.trace ++ if b.isEmpty then [] else [.ri (.writeBuffer o b (BitVec.ofNat 8 b.length))] := by
  unfold State.riWriteBuffer; split <;> simp [*]

@[simp] theorem State.tmrInit_tx_txTimer (s : State) : (s.tmrInit .tx).txTimer = ⟨false, s.txTimer.value⟩ := rfl
@[simp] theorem State.tmrInit_tx_rxTimer (s : State) : (s.tmrInit .tx).rxTimer = s.rxTimer := rfl
@[simp] theorem State.tmrInit_tx_chunkTimer (s : State) : (s.tmrInit .tx).chunkTimer = s.chunkTimer := rfl
@[simp] theorem State.tmrInit_rx_txTimer (s : State) : (s.tmrInit .rx).txTimer = s.txTimer := rfl
@[simp] theorem State.tmrInit_rx_rxTimer (s : State) : (s.tmrInit .rx).rxTimer = ⟨false, s.rxTimer.value⟩ := rfl
@[simp] theorem State.tmrInit_rx_chunkTimer (s : State) : (s.tmrInit .rx).chunkTimer = s.chunkTimer := rfl
@[simp] theorem State.tmrInit_chunk_txTimer (s : State) : (s.tmrInit .chunk).txTimer = s.txTimer := rfl
@[simp] theorem State.tmrInit_chunk_rxTimer (s : State) : (s.tmrInit .chunk).rxTimer = s.rxTimer := rfl
@[simp] theorem State.tmrInit_chunk_chunkTimer (s : State) : (s.tmrInit .chunk).chunkTimer = ⟨false, s.chunkTimer.value⟩ := rfl
@[simp] theorem State.tmrInit_initialised (s : State) (t : TimerId) : (s.tmrInit t).initialised = s.initialised := by cases t <;> rfl
@[simp] theorem State.tmrInit_radioState (s : State) (t : TimerId) : (s.tmrInit t).radioState = s.radioState := by cases t <;> rfl
@[simp] theorem State.tmrInit_cbMask (s : State) (t : TimerId) : (s.tmrInit t).cbMask = s.cbMask := by cases t <;> rfl
@[simp] theorem State.tmrInit_fault (s : State) (t : TimerId) : (s.tmrInit t).fault = s.fault := by cases t <;> rfl
@[simp] theorem State.tmrInit_irqMaskShadow (s : State) (t : TimerId) : (s.tmrInit t).irqMaskShadow = s.irqMaskShadow := by cases t <;> rfl
@[simp] theorem State.tmrInit_irqQ (s : State) (t : TimerId) : (s.tmrInit t).irqQ = s.irqQ := by cases t <;> rfl
@[simp] theorem State.tmrInit_mp (s : State) (t : TimerId) : (s.tmrInit t).mp = s.mp := by cases t <;> rfl
@[simp] theorem State.tmrInit_lp (s : State) (t : TimerId) : (s.tmrInit t).lp = s.lp := by cases t <;> rfl
@[simp] theorem State.tmrInit_rxStage (s : State) (t : TimerId) : (s.tmrInit t).rxStage = s.rxStage := by cases t <;> rfl
@[simp] theorem State.tmrInit_radioBuffer (s : State) (t : TimerId) : (s.tmrInit t).radioBuffer = s.radioBuffer := by cases t <;> rfl
@[simp] theorem State.tmrInit_env (s : State) (t : TimerId) : (s.tmrInit t).env = s.env := by cases t <;> rfl
@[simp] theorem State.tmrInit_trace (s : State) (t : TimerId) : (s.tmrInit t).trace = s.trace ++ [.tmr (.init t)] := by cases t <;> rfl

@[simp] theorem State.tmrStart_tx_txTimer (s : State) : (s.tmrStart .tx).txTimer = ⟨true, s.txTimer.value⟩ := rfl
@[simp] theorem State.tmrStart_tx_rxTimer (s : State) : (s.tmrStart .tx).rxTimer = s.rxTimer := rfl
@[simp] theorem State.tmrStart_tx_chunkTimer (s : State) : (s.tmrStart .tx).chunkTimer = s.chunkTimer := rfl
@[simp] theorem State.tmrStart_rx_txTimer (s : State) : (s.tmrStart .rx).txTimer = s.txTimer := rfl
@[simp] theorem State.tmrStart_rx_rxTimer (s : State) : (s.tmrStart .rx).rxTimer = ⟨true, s.rxTimer.value⟩ := rfl
@[simp] theorem State.tmrStart_rx_chunkTimer (s : State) : (s.tmrStart .rx).chunkTimer = s.chunkTimer := rfl
@[simp] theorem State.tmrStart_chunk_txTimer (s : State) : (s.tmrStart .chunk).txTimer = s.txTimer := rfl
@[simp] theorem State.tmrStart_chunk_rxTimer (s : State) : (s.tmrStart .chunk).rxTimer = s.rxTimer := rfl
@[simp] theorem State.tmrStart_chunk_chunkTimer (s : State) : (s.tmrStart .chunk).chunkTimer = ⟨true, s.chunkTimer.value⟩ := rfl
@[simp] theorem State.tmrStart_initialised (s : State) (t : TimerId) : (s.tmrStart t).initialised = s.initialised := by cases t <;> rfl
@[simp] theorem State.tmrStart_radioState (s : State) (t : TimerId) : (s.tmrStart t).radioState = s.radioState := by cases t <;> rfl
@[simp] theorem State.tmrStart_cbMask (s : State) (t : TimerId) : (s.tmrStart t).cbMask = s.cbMask := by cases t <;> rfl
@[simp] theorem State.tmrStart_fault (s : State) (t : TimerId) : (s.tmrStart t).fault = s.fault := by cases t <;> rfl
@[simp] theorem State.tmrStart_irqMaskShadow (s : State) (t : TimerId) : (s.tmrStart t).irqMaskShadow = s.irqMaskShadow := by cases t <;> rfl
@[simp] theorem State.tmrStart_irqQ (s : State) (t : TimerId) : (s.tmrStart t).irqQ = s.irqQ := by cases t <;> rfl
@[simp] theorem State.tmrStart_mp (s : State) (t : TimerId) : (s.tmrStart t).mp = s.mp := by cases t <;> rfl
@[simp] theorem State.tmrStart_lp (s : State) (t : TimerId) : (s.tmrStart t).lp = s.lp := by cases t <;> rfl
@[simp] theorem State.tmrStart_rxStage (s : State) (t : TimerId) : (s.tmrStart t).rxStage = s.rxStage := by cases t <;> rfl
@[simp] theorem State.tmrStart_radioBuffer (s : State) (t : TimerId) : (s.tmrStart t).radioBuffer = s.radioBuffer := by cases t <;> rfl
@[simp] theorem State.tmrStart_env (s : State) (t : TimerId) : (s.tmrStart t).env = s.env := by cases t <;> rfl
@[simp] theorem State.tmrStart_trace (s : State) (t : TimerId) : (s.tmrStart t).trace = s.trace ++ [.tmr (.start t)] := by cases t <;> rfl

@[simp] theorem State.tmrStop_tx_txTimer (s : State) : (s.tmrStop .tx).txTimer = ⟨false, s.txTimer.value⟩ := rfl
@[simp] theorem State.tmrStop_tx_rxTimer (s : State) : (s.tmrStop .tx).rxTimer = s.rxTimer := rfl
@[simp] theorem State.tmrStop_tx_chunkTimer (s : State) : (s.tmrStop .tx).chunkTimer = s.chunkTimer := rfl
@[simp] theorem State.tmrStop_rx_txTimer (s : State) : (s.tmrStop .rx).txTimer = s.txTimer := rfl
@[simp] theorem State.tmrStop_rx_rxTimer (s : State) : (s.tmrStop .rx).rxTimer = ⟨false, s.rxTimer.value⟩ := rfl
@[simp] theorem State.tmrStop_rx_chunkTimer (s : State) : (s.tmrStop .rx).chunkTimer = s.chunkTimer := rfl
@[simp] theorem State.tmrStop_chunk_txTimer (s : State) : (s.tmrStop .chunk).txTimer = s.txTimer := rfl
@[simp] theorem State.tmrStop_chunk_rxTimer (s : State) : (s.tmrStop .chunk).rxTimer = s.rxTimer := rfl
@[simp] theorem State.tmrStop_chunk_chunkTimer (s : State) : (s.tmrStop .chunk).chunkTimer = ⟨false, s.chunkTimer.value⟩ := rfl
@[simp] theorem State.tmrStop_initialised (s : State) (t : TimerId) : (s.tmrStop t).initialised = s.initialised := by cases t <;> rfl
@[simp] theorem State.tmrStop_radioState (s : State) (t : TimerId) : (s.tmrStop t).radioState = s.radioState := by cases t <;> rfl
@[simp] theorem State.tmrStop_cbMask (s : State) (t : TimerId) : (s.tmrStop t).cbMask = s.cbMask := by cases t <;> rfl
@[simp] theorem State.tmrStop_fault (s : State) (t : TimerId) : (s.tmrStop t).fault = s.fault := by cases t <;> rfl
@[simp] theorem State.tmrStop_irqMaskShadow (s : State) (t : TimerId) : (s.tmrStop t).irqMaskShadow = s.irqMaskShadow := by cases t <;> rfl
@[simp] theorem State.tmrStop_irqQ (s : State) (t : TimerId) : (s.tmrStop t).irqQ = s.irqQ := by cases t <;> rfl
@[simp] theorem State.tmrStop_mp (s : State) (t : TimerId) : (s.tmrStop t).mp = s.mp := by cases t <;> rfl
@[simp] theorem State.tmrStop_lp (s : State) (t : TimerId) : (s.tmrStop t).lp = s.lp := by cases t <;> rfl
@[simp] theorem State.tmrStop_rxStage (s : State) (t : TimerId) : (s.tmrStop t).rxStage = s.rxStage := by cases t <;> rfl
@[simp] theorem State.tmrStop_radioBuffer (s : State) (t : TimerId) : (s.tmrStop t).radioBuffer = s.radioBuffer := by cases t <;> rfl
@[simp] theorem State.tmrStop_env (s : State) (t : TimerId) : (s.tmrStop t).env = s.env := by cases t <;> rfl
@[simp] theorem State.tmrStop_trace (s : State) (t : TimerId) : (s.tmrStop t).trace = s.trace ++ [.tmr (.stop t)] := by cases t <;> rfl

@[simp] theorem State.tmrExpired_tx_txTimer (s : State) : (s.tmrExpired .tx).txTimer = ⟨false, s.txTimer.value⟩ := rfl
@[simp] theorem State.tmrExpired_tx_rxTimer (s : State) : (s.tmrExpired .tx).rxTimer = s.rxTimer := rfl
@[simp] theorem State.tmrExpired_tx_chunkTimer (s : State) : (s.tmrExpired .tx).chunkTimer = s.chunkTimer := rfl
@[simp] theorem State.tmrExpired_rx_txTimer (s : State) : (s.tmrExpired .rx).txTimer = s.txTimer := rfl
@[simp] theorem State.tmrExpired_rx_rxTimer (s : State) : (s.tmrExpired .rx).rxTimer = ⟨false, s.rxTimer.value⟩ := rfl
@[simp] theorem State.tmrExpired_rx_chunkTimer (s : State) : (s.tmrExpired .rx).chunkTimer = s.chunkTimer := rfl
@[simp] theorem State.tmrExpired_chunk_txTimer (s : State) : (s.tmrExpired .chunk).txTimer = s.txTimer := rfl
@[simp] theorem State.tmrExpired_chunk_rxTimer (s : State) : (s.tmrExpired .chunk).rxTimer = s.rxTimer := rfl
@[simp] theorem State.tmrExpired_chunk_chunkTimer (s : State) : (s.tmrExpired .chunk).chunkTimer = ⟨false, s.chunkTimer.value⟩ := rfl
@[simp] theorem State.tmrExpired_initialised (s : State) (t : TimerId) : (s.tmrExpired t).initialised = s.initialised := by cases t <;> rfl
@[simp] theorem State.tmrExpired_radioState (s : State) (t : TimerId) : (s.tmrExpired t).radioState = s.radioState := by cases t <;> rfl
@[simp] theorem State.tmrExpired_cbMask (s : State) (t : TimerId) : (s.tmrExpired t).cbMask = s.cbMask := by cases t <;> rfl
@[simp] theorem State.tmrExpired_fault (s : State) (t : TimerId) : (s.tmrExpired t).fault = s.fault := by cases t <;> rfl
@[simp] theorem State.tmrExpired_irqMaskShadow (s : State) (t : TimerId) : (s.tmrExpired t).irqMaskShadow = s.irqMaskShadow := by cases t <;> rfl
@[simp] theorem State.tmrExpired_irqQ (s : State) (t : TimerId) : (s.tmrExpired t).irqQ = s.irqQ := by cases t <;> rfl
@[simp] theorem State.tmrExpired_mp (s : State) (t : TimerId) : (s.tmrExpired t).mp = s.mp := by cases t <;> rfl
@[simp] theorem State.tmrExpired_lp (s : State) (t : TimerId) : (s.tmrExpired t).lp = s.lp := by cases t <;> rfl
@[simp] theorem State.tmrExpired_rxStage (s : State) (t : TimerId) : (s.tmrExpired t).rxStage = s.rxStage := by cases t <;> rfl
@[simp] theorem State.tmrExpired_radioBuffer (s : State) (t : TimerId) : (s.tmrExpired t).radioBuffer = s.radioBuffer := by cases t <;> rfl
@[simp] theorem State.tmrExpired_env (s : State) (t : TimerId) : (s.tmrExpired t).env = s.env := by cases t <;> rfl
@[simp] theorem State.tmrExpired_trace (s : State) (t : TimerId) : (s.tmrExpired t).trace = s.trace := by cases t <;> rfl

@[simp] theorem State.tmrSetValue_tx_txTimer (s : State) (ms : U32) : (s.tmrSetValue .tx ms).txTimer = ⟨false, ms⟩ := rfl
@[simp] theorem State.tmrSetValue_tx_rxTimer (s : State) (ms : U32) : (s.tmrSetValue .tx ms).rxTimer = s.rxTimer := rfl
@[simp] theorem State.tmrSetValue_tx_chunkTimer (s : State) (ms : U32) : (s.tmrSetValue .tx ms).chunkTimer = s.chunkTimer := rfl
@[simp] theorem State.tmrSetValue_rx_txTimer (s : State) (ms : U32) : (s.tmrSetValue .rx ms).txTimer = s.txTimer := rfl
@[simp] theorem State.tmrSetValue_rx_rxTimer (s : State) (ms : U32) : (s.tmrSetValue .rx ms).rxTimer = ⟨false, ms⟩ := rfl
@[simp] theorem State.tmrSetValue_rx_chunkTimer (s : State) (ms : U32) : (s.tmrSetValue .rx ms).chunkTimer = s.chunkTimer := rfl
@[simp] theorem State.tmrSetValue_chunk_txTimer (s : State) (ms : U32) : (s.tmrSetValue .chunk ms).txTimer = s.txTimer := rfl
@[simp] theorem State.tmrSetValue_chunk_rxTimer (s : State) (ms : U32) : (s.tmrSetValue .chunk ms).rxTimer = s.rxTimer := rfl
@[simp] theorem State.tmrSetValue_chunk_chunkTimer (s : State) (ms : U32) : (s.tmrSetValue .chunk ms).chunkTimer = ⟨false, ms⟩ := rfl
@[simp] theorem State.tmrSetValue_initialised (s : State) (t : TimerId) (ms : U32) : (s.tmrSetValue t ms).initialised = s.initialised := by cases t <;> rfl
@[simp] theorem State.tmrSetValue_radioState (s : State) (t : TimerId) (ms : U32) : (s.tmrSetValue t ms).radioState = s.radioState := by cases t <;> rfl
@[simp] theorem State.tmrSetValue_cbMask (s : State) (t : TimerId) (ms : U32) : (s.tmrSetValue t ms).cbMask = s.cbMask := by cases t <;> rfl
@[simp] theorem State.tmrSetValue_fault (s : State) (t : TimerId) (ms : U32) : (s.tmrSetValue t ms).fault = s.fault := by cases t <;> rfl
@[simp] theorem State.tmrSetValue_irqMaskShadow (s : State) (t : TimerId) (ms : U32) : (s.tmrSetValue t ms).irqMaskShadow = s.irqMaskShadow := by cases t <;> rfl
@[simp] theorem State.tmrSetValue_irqQ (s : State) (t : TimerId) (ms : U32) : (s.tmrSetValue t ms).irqQ = s.irqQ := by cases t <;> rfl
@[simp] theorem State.tmrSetValue_mp (s : State) (t : TimerId) (ms : U32) : (s.tmrSetValue t ms).mp = s.mp := by cases t <;> rfl
@[simp] theorem State.tmrSetValue_lp (s : State) (t : TimerId) (ms : U32) : (s.tmrSetValue t ms).lp = s.lp := by cases t <;> rfl
@[simp] theorem State.tmrSetValue_rxStage (s : State) (t : TimerId) (ms : U32) : (s.tmrSetValue t ms).rxStage = s.rxStage := by cases t <;> rfl
@[simp] theorem State.tmrSetValue_radioBuffer (s : State) (t : TimerId) (ms : U32) : (s.tmrSetValue t ms).radioBuffer = s.radioBuffer := by cases t <;> rfl
@[simp] theorem State.tmrSetValue_env (s : State) (t : TimerId) (ms : U32) : (s.tmrSetValue t ms).env = s.env := by cases t <;> rfl
@[simp] theorem State.tmrSetValue_trace (s : State) (t : TimerId) (ms : U32) : (s.tmrSetValue t ms).trace = s.trace ++ [.tmr (.setValue t ms)] := by cases t <;> rfl

@[simp] theorem State.tmrArm_tx_txTimer (s : State) (ms : U32) : (s.tmrArm .tx ms).txTimer = ⟨true, ms⟩ := rfl
@[simp] theorem State.tmrArm_tx_rxTimer (s : State) (ms : U32) : (s.tmrArm .tx ms).rxTimer = s.rxTimer := rfl
@[simp] theorem State.tmrArm_tx_chunkTimer (s : State) (ms : U32) : (s.tmrArm .tx ms).chunkTimer = s.chunkTimer := rfl
@[simp] theorem State.tmrArm_rx_txTimer (s : State) (ms : U32) : (s.tmrArm .rx ms).txTimer = s.txTimer := rfl
@[simp] theorem State.tmrArm_rx_rxTimer (s : State) (ms : U32) : (s.tmrArm .rx ms).rxTimer = ⟨true, ms⟩ := rfl
@[simp] theorem State.tmrArm_rx_chunkTimer (s : State) (ms : U32) : (s.tmrArm .rx ms).chunkTimer = s.chunkTimer := rfl
@[simp] theorem State.tmrArm_chunk_txTimer (s : State) (ms : U32) : (s.tmrArm .chunk ms).txTimer = s.txTimer := rfl
@[simp] theorem State.tmrArm_chunk_rxTimer (s : State) (ms : U32) : (s.tmrArm .chunk ms).rxTimer = s.rxTimer := rfl
@[simp] theorem State.tmrArm_chunk_chunkTimer (s : State) (ms : U32) : (s.tmrArm .chunk ms).chunkTimer = ⟨true, ms⟩ := rfl
@[simp] theorem State.tmrArm_initialised (s : State) (t : TimerId) (ms : U32) : (s.tmrArm t ms).initialised = s.initialised := by cases t <;> rfl
@[simp] theorem State.tmrArm_radioState (s : State) (t : TimerId) (ms : U32) : (s.tmrArm t ms).radioState = s.radioState := by cases t <;> rfl
@[simp] theorem State.tmrArm_cbMask (s : State) (t : TimerId) (ms : U32) : (s.tmrArm t ms).cbMask = s.cbMask := by cases t <;> rfl
@[simp] theorem State.tmrArm_fault (s : State) (t : TimerId) (ms : U32) : (s.tmrArm t ms).fault = s.fault := by cases t <;> rfl
@[simp] theorem State.tmrArm_irqMaskShadow (s : State) (t : TimerId) (ms : U32) : (s.tmrArm t ms).irqMaskShadow = s.irqMaskShadow := by cases t <;> rfl
@[simp] theorem State.tmrArm_irqQ (s : State) (t : TimerId) (ms : U32) : (s.tmrArm t ms).irqQ = s.irqQ := by cases t <;> rfl
@[simp] theorem State.tmrArm_mp (s : State) (t : TimerId) (ms : U32) : (s.tmrArm t ms).mp = s.mp := by cases t <;> rfl
@[simp] theorem State.tmrArm_lp (s : State) (t : TimerId) (ms : U32) : (s.tmrArm t ms).lp = s.lp := by cases t <;> rfl
@[simp] theorem State.tmrArm_rxStage (s : State) (t : TimerId) (ms : U32) : (s.tmrArm t ms).rxStage = s.rxStage := by cases t <;> rfl
@[simp] theorem State.tmrArm_radioBuffer (s : State) (t : TimerId) (ms : U32) : (s.tmrArm t ms).radioBuffer = s.radioBuffer := by cases t <;> rfl
@[simp] theorem State.tmrArm_env (s : State) (t : TimerId) (ms : U32) : (s.tmrArm t ms).env = s.env := by cases t <;> rfl
@[simp] theorem State.tmrArm_trace (s : State) (t : TimerId) (ms : U32) : (s.tmrArm t ms).trace = s.trace ++ [.tmr (.setValue t ms), .tmr (.start t)] := by
  simp [State.tmrArm]

@[simp] theorem State.stopTimers_initialised (s : State) : (s.stopTimers).initialised = s.initialised := by simp [State.stopTimers]
@[simp] theorem State.stopTimers_radioState (s : State) : (s.stopTimers).radioState = s.radioState := by simp [State.stopTimers]
@[simp] theorem State.stopTimers_cbMask (s : State) : (s.stopTimers).cbMask = s.cbMask := by simp [State.stopTimers]
@[simp] theorem State.stopTimers_fault (s : State) : (s.stopTimers).fault = s.fault := by simp [State.stopTimers]
@[simp] theorem State.stopTimers_irqMaskShadow (s : State) : (s.stopTimers).irqMaskShadow = s.irqMaskShadow := by simp [State.stopTimers]
@[simp] theorem State.stopTimers_irqQ (s : State) : (s.stopTimers).irqQ = s.irqQ := by simp [State.stopTimers]
@[simp] theorem State.stopTimers_txTimer (s : State) : (s.stopTimers).txTimer = ⟨false, s.txTimer.value⟩ := by simp [State.stopTimers]
@[simp] theorem State.stopTimers_rxTimer (s : State) : (s.stopTimers).rxTimer = ⟨false, s.rxTimer.value⟩ := by simp [State.stopTimers]
@[simp] theorem State.stopTimers_chunkTimer (s : State) : (s.stopTimers).chunkTimer = ⟨false, s.chunkTimer.value⟩ := by simp [State.stopTimers]
@[simp] theorem State.stopTimers_mp (s : State) : (s.stopTimers).mp = s.mp := by simp [State.stopTimers]
@[simp] theorem State.stopTimers_lp (s : State) : (s.stopTimers).lp = s.lp := by simp [State.stopTimers]
@[simp] theorem State.stopTimers_rxStage (s : State) : (s.stopTimers).rxStage = s.rxStage := by simp [State.stopTimers]
@[simp] theorem State.stopTimers_radioBuffer (s : State) : (s.stopTimers).radioBuffer = s.radioBuffer := by simp [State.stopTimers]
@[simp] theorem State.stopTimers_env (s : State) : (s.stopTimers).env = s.env := by simp [State.stopTimers]
@[simp] theorem State.stopTimers_trace (s : State) : (s.stopTimers).trace = s.trace ++ [.tmr (.stop .tx), .tmr (.stop .rx), .tmr (.stop .chunk)] := by simp [State.stopTimers]

@[simp] theorem State.abort_initialised (s : State) : (s.abort).initialised = s.initialised := by
  simp [State.abort]
@[simp] theorem State.abort_radioState (s : State) : (s.abort).radioState = .idle := by
  simp [State.abort]
@[simp] theorem State.abort_cbMask (s : State) : (s.abort).cbMask = s.cbMask := by
  simp [State.abort]
@[simp] theorem State.abort_fault (s : State) : (s.abort).fault = s.fault := by
  simp [State.abort]
@[simp] theorem State.abort_irqMaskShadow (s : State) : (s.abort).irqMaskShadow = s.irqMaskShadow := by
  simp [State.abort]
@[simp] theorem State.abort_irqQ (s : State) : (s.abort).irqQ = [] := by
  simp [State.abort]
@[simp] theorem State.abort_txTimer (s : State) : (s.abort).txTimer = ⟨false, s.txTimer.value⟩ := by
  simp [State.abort]
@[simp] theorem State.abort_rxTimer (s : State) : (s.abort).rxTimer = ⟨false, s.rxTimer.value⟩ := by
  simp [State.abort]
@[simp] theorem State.abort_chunkTimer (s : State) : (s.abort).chunkTimer = ⟨false, s.chunkTimer.value⟩ := by
  simp [State.abort]
@[simp] theorem State.abort_mp (s : State) : (s.abort).mp = s.mp := by
  simp [State.abort]
@[simp] theorem State.abort_lp (s : State) : (s.abort).lp = s.lp.transferReset := by
  simp [State.abort]
@[simp] theorem State.abort_rxStage (s : State) : (s.abort).rxStage = s.rxStage := by
  simp [State.abort]
@[simp] theorem State.abort_radioBuffer (s : State) : (s.abort).radioBuffer = s.radioBuffer := by
  simp [State.abort]
@[simp] theorem State.abort_env (s : State) : (s.abort).env = s.env := by
  simp [State.abort]
@[simp] theorem State.abort_trace (s : State) : (s.abort).trace = s.trace ++
    [.tmr (.stop .tx), .tmr (.stop .rx), .tmr (.stop .chunk), .ri (.setStandby Config.standbyMode)] := by
  simp [State.abort]

@[simp] theorem State.armIrq_initialised (s : State) (mask : U16) : (s.armIrq mask).initialised = s.initialised := rfl
@[simp] theorem State.armIrq_radioState (s : State) (mask : U16) : (s.armIrq mask).radioState = s.radioState := rfl
@[simp] theorem State.armIrq_cbMask (s : State) (mask : U16) : (s.armIrq mask).cbMask = s.cbMask := rfl
@[simp] theorem State.armIrq_fault (s : State) (mask : U16) : (s.armIrq mask).fault = s.fault := rfl
@[simp] theorem State.armIrq_irqMaskShadow (s : State) (mask : U16) : (s.armIrq mask).irqMaskShadow = mask := rfl
@[simp] theorem State.armIrq_irqQ (s : State) (mask : U16) : (s.armIrq mask).irqQ = [] := rfl
@[simp] theorem State.armIrq_txTimer (s : State) (mask : U16) : (s.armIrq mask).txTimer = s.txTimer := rfl
@[simp] theorem State.armIrq_rxTimer (s : State) (mask : U16) : (s.armIrq mask).rxTimer = s.rxTimer := rfl
@[simp] theorem State.armIrq_chunkTimer (s : State) (mask : U16) : (s.armIrq mask).chunkTimer = s.chunkTimer := rfl
@[simp] theorem State.armIrq_mp (s : State) (mask : U16) : (s.armIrq mask).mp = s.mp := rfl
@[simp] theorem State.armIrq_lp (s : State) (mask : U16) : (s.armIrq mask).lp = s.lp := rfl
@[simp] theorem State.armIrq_rxStage (s : State) (mask : U16) : (s.armIrq mask).rxStage = s.rxStage := rfl
@[simp] theorem State.armIrq_radioBuffer (s : State) (mask : U16) : (s.armIrq mask).radioBuffer = s.radioBuffer := rfl
@[simp] theorem State.armIrq_env (s : State) (mask : U16) : (s.armIrq mask).env = s.env := rfl
@[simp] theorem State.armIrq_trace (s : State) (mask : U16) : (s.armIrq mask).trace = s.trace ++ [.ri (.setDioIrqParams mask)] := rfl

@[simp] theorem State.setPower_initialised (s : State) (p : Byte) : (s.setPower p).initialised = s.initialised := rfl
@[simp] theorem State.setPower_radioState (s : State) (p : Byte) : (s.setPower p).radioState = s.radioState := rfl
@[simp] theorem State.setPower_cbMask (s : State) (p : Byte) : (s.setPower p).cbMask = s.cbMask := rfl
@[simp] theorem State.setPower_fault (s : State) (p : Byte) : (s.setPower p).fault = s.fault := rfl
@[simp] theorem State.setPower_irqMaskShadow (s : State) (p : Byte) : (s.setPower p).irqMaskShadow = s.irqMaskShadow := rfl
@[simp] theorem State.setPower_irqQ (s : State) (p : Byte) : (s.setPower p).irqQ = s.irqQ := rfl
@[simp] theorem State.setPower_txTimer (s : State) (p : Byte) : (s.setPower p).txTimer = s.txTimer := rfl
@[simp] theorem State.setPower_rxTimer (s : State) (p : Byte) : (s.setPower p).rxTimer = s.rxTimer := rfl
@[simp] theorem State.setPower_chunkTimer (s : State) (p : Byte) : (s.setPower p).chunkTimer = s.chunkTimer := rfl
@[simp] theorem State.setPower_mp (s : State) (p : Byte) : (s.setPower p).mp = { s.mp with power := p, antSel := s.answerByte 0 } := rfl
@[simp] theorem State.setPower_lp (s : State) (p : Byte) : (s.setPower p).lp = s.lp := rfl
@[simp] theorem State.setPower_rxStage (s : State) (p : Byte) : (s.setPower p).rxStage = s.rxStage := rfl
@[simp] theorem State.setPower_radioBuffer (s : State) (p : Byte) : (s.setPower p).radioBuffer = s.radioBuffer := rfl
@[simp] theorem State.setPower_env (s : State) (p : Byte) : (s.setPower p).env = { s.env with answers := s.env.answers.drop 1, draws := s.env.draws + 1 } := rfl
@[simp] theorem State.setPower_trace (s : State) (p : Byte) : (s.setPower p).trace = s.trace ++ [.ri (.setRfTxPower p)] := rfl

@[simp] theorem State.reset_initialised : State.reset.initialised = false := rfl
@[simp] theorem State.reset_radioState : State.reset.radioState = .idle := rfl
@[simp] theorem State.reset_cbMask : State.reset.cbMask = 0 := rfl
@[simp] theorem State.reset_fault : State.reset.fault = 0 := rfl
@[simp] theorem State.reset_irqMaskShadow : State.reset.irqMaskShadow = 0 := rfl
@[simp] theorem State.reset_irqQ : State.reset.irqQ = [] := rfl
@[simp] theorem State.reset_txTimer : State.reset.txTimer = ⟨false, 0⟩ := rfl
@[simp] theorem State.reset_rxTimer : State.reset.rxTimer = ⟨false, 0⟩ := rfl
@[simp] theorem State.reset_chunkTimer : State.reset.chunkTimer = ⟨false, 0⟩ := rfl
@[simp] theorem State.reset_mp : State.reset.mp = .reset := rfl
@[simp] theorem State.reset_lp : State.reset.lp = .reset := rfl
@[simp] theorem State.reset_trace : State.reset.trace = [] := rfl
@[simp] theorem State.reset_rxStage_length : State.reset.rxStage.length = 255 := List.length_replicate
@[simp] theorem State.reset_radioBuffer_length : State.reset.radioBuffer.length = 256 := List.length_replicate

end Sys2Proof.Machine
end

