-- ==== Sys2Proof/Laws/Ops.lean ====
section
/-! SUPPORT. One lemma per shared operation: everything it does, in the terms of `Sys2Proof.Safety`, so that a proof cites it
instead of unfolding the operation. -/

namespace Sys2Proof.Machine

/-! ## Responses -/

theorem respOk_eq_statusOk : respOk = statusOk := by decide

theorem respError_eq_statusError : respError = statusError := by decide

theorem respUnsupported_eq_statusUnsupported : respUnsupported = statusUnsupported := by decide

theorem respBool_eq (b : Bool) : respBool b = [if b then 1 else 0] := rfl

theorem State.respond_eq (s : State) (p : List Byte) : s.respond p = s.output [.response p] := rfl

theorem State.ri_eq (s : State) (op : RiOp) : s.ri op = s.output [.ri op] := rfl

theorem State.emit_eq (s : State) (o : Output) : s.emit o = s.output [o] := rfl

theorem State.output_output (s : State) (a b : List Output) : (s.output a).output b = s.output (a ++ b) := by
  simp [State.output]

/-- A supplied callback is the only output of a callback (R25). -/
theorem State.callback_eq (s : State) (c : Callback) (b : Nat) (h : cbBit c = some b) :
    s.callback c = s.output (s.supplied b c) := by
  have hc : cbEnabled s.cbMask c = s.cbMask.getLsbD b := by rw [cbEnabled, h]
  rw [State.callback, hc, State.supplied]
  cases s.cbMask.getLsbD b <;> simp [State.emit, State.output]

/-! ## The check of `Initialised` -/

theorem State.ifInit_of_initialised {s : State} (h : s.initialised = true) (r : List Byte) (body : State → State) :
    s.ifInit r body = body s := by
  simp [State.ifInit, h]

theorem State.ifInit_of_not_initialised {s : State} (h : s.initialised = false) (r : List Byte) (body : State → State) :
    s.ifInit r body = s.notInit r := by
  simp [State.ifInit, h, State.notInit, State.raiseFault, State.respond, State.emit, faultMask]

/-! ## Timers -/

/-- A one-shot arm sets the value, then arms (R400). -/
theorem State.tmrArm_eq (s : State) (t : TimerId) (ms : U32) :
    s.tmrArm t ms = (s.setTimer t ⟨true, ms⟩).output [.tmr (.setValue t ms), .tmr (.start t)] := by
  cases t <;> simp [State.tmrArm, State.tmrSetValue, State.tmrStart, State.setTimer, State.emit, State.output, State.timer]

theorem State.stopTimers_eq (s : State) :
    s.stopTimers =
      { s with
        txTimer := ⟨false, s.txTimer.value⟩, rxTimer := ⟨false, s.rxTimer.value⟩, chunkTimer := ⟨false, s.chunkTimer.value⟩
        trace := s.trace ++ [.tmr (.stop .tx), .tmr (.stop .rx), .tmr (.stop .chunk)] } := by
  simp [State.stopTimers, State.tmrStop, State.setTimer, State.emit, State.timer]

/-! ## Abort and arming -/

theorem LongPacket.transferReset_eq (l : LongPacket) : l.transferReset = l.cleared := rfl

theorem State.lpTransferReset_eq (s : State) : s.lpTransferReset = { s with lp := s.lp.cleared } := rfl

theorem State.abort_eq (s : State) : s.abort = s.aborted := by
  simp [State.abort, State.stopTimers_eq, State.lpTransferReset_eq, State.setIrqQ, State.standby, State.ri, State.emit,
    State.setRadio, State.aborted, standbyOutput]

theorem State.abortIfBusy_eq (s : State) : s.abortIfBusy = s.fromIdle := by
  simp [State.abortIfBusy, State.fromIdle, State.abort_eq]

theorem State.armIrq_eq (s : State) (mask : U16) :
    s.armIrq mask =
      { s with irqQ := [], irqMaskShadow := mask, trace := s.trace ++ [.ri (.setDioIrqParams mask)] } := rfl

@[simp] theorem State.aborted_mp (s : State) : s.aborted.mp = s.mp := rfl
@[simp] theorem State.aborted_env (s : State) : s.aborted.env = s.env := rfl
@[simp] theorem State.aborted_initialised (s : State) : s.aborted.initialised = s.initialised := rfl
@[simp] theorem State.aborted_cbMask (s : State) : s.aborted.cbMask = s.cbMask := rfl
@[simp] theorem State.aborted_lp (s : State) : s.aborted.lp = s.lp.cleared := rfl
@[simp] theorem State.aborted_answer (s : State) (i : Nat) : s.aborted.answer i = s.answer i := rfl

@[simp] theorem State.fromIdle_mp (s : State) : s.fromIdle.mp = s.mp := by unfold State.fromIdle; split <;> rfl
@[simp] theorem State.fromIdle_env (s : State) : s.fromIdle.env = s.env := by unfold State.fromIdle; split <;> rfl
@[simp] theorem State.fromIdle_initialised (s : State) : s.fromIdle.initialised = s.initialised := by
  unfold State.fromIdle; split <;> rfl
@[simp] theorem State.fromIdle_cbMask (s : State) : s.fromIdle.cbMask = s.cbMask := by unfold State.fromIdle; split <;> rfl
@[simp] theorem State.fromIdle_answer (s : State) (i : Nat) : s.fromIdle.answer i = s.answer i := by
  unfold State.fromIdle; split <;> rfl
@[simp] theorem State.fromIdle_rxStage (s : State) : s.fromIdle.rxStage = s.rxStage := by unfold State.fromIdle; split <;> rfl
@[simp] theorem State.fromIdle_radioBuffer (s : State) : s.fromIdle.radioBuffer = s.radioBuffer := by
  unfold State.fromIdle; split <;> rfl
/-- An abort clears the transfer's registers and keeps the engine's configuration. -/
theorem State.fromIdle_cleared (s : State) : s.fromIdle.lp.cleared = s.lp.cleared := by unfold State.fromIdle; split <;> rfl

/-! ## Buffers -/

theorem State.riWriteBuffer_eq (s : State) (offset : Byte) (buf : List Byte) :
    s.riWriteBuffer offset buf = s.output (ringWrite offset buf) := by
  cases buf <;> simp [State.riWriteBuffer, ringWrite, State.output, State.ri, State.emit]

/-- A read of `n` bytes answers the next `n` answers; a read of none emits nothing (R74). -/
theorem State.riReadBuffer_eq (s : State) (offset : Byte) (n : Nat) :
    s.riReadBuffer offset n =
      (s.nextBytes n,
        (s.output (if n = 0 then [] else [.ri (.readBuffer offset (BitVec.ofNat 8 n))])).skipAnswers n) := by
  unfold State.riReadBuffer
  split
  · subst n; simp [State.nextBytes, State.output, State.skipAnswers]
  · rfl

/-- `SetRfTxPower` answers the antenna selector (R81). -/
theorem State.setPower_eq (s : State) (power : Byte) :
    s.setPower power =
      { s.skipAnswers 1 with
        mp := { s.mp with power := power, antSel := (s.answer 0).setWidth 8 }
        trace := s.trace ++ [.ri (.setRfTxPower power)] } := rfl

/-! ## The FSK record (R150) -/

theorem State.buildPktFsk_hardware {s : State} (h : s.lp.enable = false) :
    Output.ri (.setPacketParams s.buildPktFsk) = fskPacket s.mp s.mp.payloadLen := by
  simp [State.buildPktFsk, fskPacket, h]

theorem State.buildPktFsk_rfw {s : State} (h : s.lp.enable = true) :
    Output.ri (.setPacketParams s.buildPktFsk) = rfwPacket s.mp s.mp.payloadLen := by
  simp [State.buildPktFsk, rfwPacket, h]

/-! ## Kinds and ranges -/

theorem modemOf_eq_some {b : Byte} {k : ModemKind} (h : modemOf b = some k) :
    b.toNat ≤ 5 ∧ [ModemKind.fsk, .lora, .msk, .bpsk, .sigfoxTx, .sigfoxRx].getD b.toNat .fsk = k := by
  unfold modemOf at h
  split at h <;> simp_all

theorem modemOf_eq_none {b : Byte} : modemOf b = none ↔ 5 < b.toNat := by
  unfold modemOf
  split <;> simp_all
  omega

/-- The range checks of R155 accept exactly the records in range, with the modes their bytes name. -/
theorem genericModes_eq_some {g : Gcfg} {gm : GenericModes} (h : genericModes g = some gm) :
    g.bitrate ≠ 0 ∧ g.syncWordLen.toNat ≤ 8 ∧ gm.rfw = (gm.whiteMode == .ibmSw || gm.lengthMode == .var2) ∧
    (gm.rfw = true → gm.crcType ≠ .other ∧ frameMax gm.lengthMode gm.crcType g.maxPayloadLen ≤ 65535 ∧
      (gm.lengthMode = .var1 → g.maxPayloadLen.toNat ≤ 255)) := by
  unfold genericModes at h
  split at h
  · dsimp only at h
    split at h
    · injection h with h; subst h
      rename_i hh
      simp only [Bool.and_eq_true, Bool.not_eq_true', bne_iff_ne, ne_eq, decide_eq_true_eq] at hh
      obtain ⟨⟨⟨⟨⟨⟨a1, a2⟩, -⟩, a4⟩, -⟩, a6⟩, a7⟩ := hh
      refine ⟨a1, a2, rfl, fun hr => ?_⟩
      simp only at hr
      rw [hr] at a4 a6 a7
      simp at a4 a6 a7
      exact ⟨a4, a6, fun hl => a7 hl⟩
    · cases h
  · cases h

/-! ## Ends of an operation -/

theorem State.endTx_eq (s : State) (c : Callback) (b : Nat) (h : cbBit c = some b) :
    s.endTx.callback c = s.transmitEnded b c := by
  rw [State.callback_eq _ _ _ h]
  simp [State.endTx, State.transmitEnded, State.tmrStop, State.setTimer, State.emit, State.timer, State.lpTransferReset_eq,
    State.standby, State.ri, State.setRadio, State.output, State.supplied, standbyOutput]

theorem State.lpRxFail_eq (s : State) (c : Callback) (b : Nat) (h : cbBit c = some b) :
    s.lpRxFail c = s.receiveEnded b c := by
  unfold State.lpRxFail
  rw [State.callback_eq _ _ _ h]
  simp [State.receiveEnded, State.tmrStop, State.setTimer, State.emit, State.timer, State.lpTransferReset_eq,
    State.standby, State.ri, State.setRadio, State.output, State.supplied, standbyOutput]

theorem State.rxTimeoutPath_eq (s : State) : s.rxTimeoutPath = s.receiveEnded 3 .rxTimeout :=
  s.lpRxFail_eq .rxTimeout 3 rfl

theorem State.lpRxDone_eq (s : State) : s.lpRxDone = s.receiveDone := by
  unfold State.lpRxDone
  dsimp only
  rw [State.callback_eq _ _ 2 rfl]
  simp [State.receiveDone, State.tmrStop, State.setTimer, State.emit, State.timer, State.lpTransferReset_eq,
    State.standby, State.ri, State.setRadio, State.output, State.supplied, standbyOutput, State.riPacketStatus,
    State.skipAnswers, State.answer, State.answerU16, State.answerByte]

theorem State.lpScheduleRxChunk_eq (s : State) : s.lpScheduleRxChunk = s.chunkScheduled := by
  unfold State.lpScheduleRxChunk State.chunkScheduled
  by_cases h : 128 < s.lp.remaining.toNat <;>
    simp [chunkLen, h, State.tmrArm_eq, State.setTimer, State.setLp, State.output]

theorem State.rxLaunch_eq (s : State) (boosted : Bool) (timeout : U32) :
    s.rxLaunch boosted timeout =
      { s with
        radioState := .rxRunning
        rxTimer := if timeout = 0 then s.rxTimer else ⟨true, timeout⟩
        trace := s.trace ++ receiveOutputs s.mp.antSel boosted timeout } := by
  unfold State.rxLaunch receiveOutputs
  by_cases h : timeout = 0
  · subst h
    cases boosted <;> simp [State.ri, State.emit, State.setRadio, rxContinuousTicks]
  · rw [if_neg h, if_neg h, if_neg h, if_neg h, if_neg h]
    cases boosted <;> simp [State.tmrArm_eq, State.setTimer, State.output, State.ri, State.emit, State.setRadio, msToTicks]

end Sys2Proof.Machine
end

