-- ==== Sys2Proof/Laws/Config.lean ====
section
/-! SUPPORT. One lemma per shared piece of the configuration commands: everything it does, as one record. -/

namespace Sys2Proof.Machine

/-- `RfwDeInit()` (R272). -/
theorem State.rfwDeInit_eq (s : State) : s.rfwDeInit = { s with lp := { s.lp.cleared with enable := false } } := rfl

/-- `RfwInit()` (R271). -/
theorem State.rfwInit_eq (s : State) :
    s.rfwInit =
      { s with
        lp := { s.lp.cleared with
          enable := true, lenW := lenWidthOf s.mp.lengthMode, crcW := crcWidthOf s.mp.crcType, crcType := s.mp.crcType
          crcPoly := s.mp.crcPoly, crcSeed := s.mp.crcSeed, whiteOn := s.mp.whiteMode != .off
          whiteSeed := s.mp.whiteSeed, maxLen := s.mp.maxPayloadLen, fixedLen := s.mp.maxPayloadLen
          bitrate := s.mp.datarate } } := rfl

/-- What every configuration does first: abort, leave RFW mode. -/
theorem State.abort_rfwDeInit_eq (s : State) :
    s.abort.rfwDeInit = { s.aborted with lp := { s.lp.cleared with enable := false } } := by
  rw [State.abort_eq, State.rfwDeInit_eq]; rfl

/-- The head of a receive configuration (R152). -/
theorem State.rxConfigHead_eq (s : State) (k : ModemKind) (c : RxConfig) :
    s.rxConfigHead k c =
      { s.aborted with
        lp := { s.lp.cleared with enable := false }
        mp := { s.mp with
          modem := k, rxContinuous := c.rxContinuous, symbTimeout := effSymbTimeout c.rxContinuous c.symbTimeout
          maxPayloadLen := if c.fixLen then c.payloadLen.setWidth 16 else 255, freqHopOn := c.freqHopOn
          hopPeriod := c.hopPeriod, bandwidthAfc := c.bandwidthAfc } } := by
  unfold State.rxConfigHead
  rw [State.abort_rfwDeInit_eq]
  rfl

/-- The push of an FSK receive configuration (R152). -/
theorem State.rxConfigFskPush_eq (s : State) :
    s.rxConfigFskPush =
      { s with
        mp := { s.mp with rxTimeoutCfg := rxTimeoutMs s.mp.symbTimeout s.mp.datarate, rxValid := true }
        trace := s.trace ++ [.ri (.setModulationParams (.fsk false s.mp.datarate s.mp.fdev (Config.fskBwCode s.mp.bw))),
          .ri (.setPacketParams s.buildPktFsk)] } := by
  simp [State.rxConfigFskPush, State.ri, State.emit, State.setMp, State.buildPktFsk]
  rfl

/-- The IQ workaround reads the register and writes it back with the bit changed (R147). -/
theorem State.iqWorkaround_eq (s : State) (iq : Bool) :
    s.iqWorkaround iq =
      (s.skipAnswers 1).output [.ri (.read Config.addrIqPolarity),
        .ri (.write Config.addrIqPolarity (iqPolarityByte iq ((s.answer 0).setWidth 8)))] := by
  simp [State.iqWorkaround, State.ri, State.emit, State.output, State.skipAnswers, State.answerByte]

/-- The head of a transmit configuration (R153). -/
theorem State.txConfigHead_eq (s : State) (k : ModemKind) (c : TxConfig) :
    s.txConfigHead k c =
      { s.aborted with
        lp := { s.lp.cleared with enable := false }
        mp := { s.mp with
          modem := k, freqHopOn := c.freqHopOn, hopPeriod := c.hopPeriod, payloadLen := s.mp.maxPayloadLen } } := by
  unfold State.txConfigHead
  rw [State.abort_rfwDeInit_eq]
  rfl

/-- The tail of a transmit configuration (R153, R156). -/
theorem State.txConfigTail_eq (s : State) (power : Byte) (timeout : U32) :
    s.txConfigTail power timeout =
      { s.skipAnswers 1 with
        mp := { s.mp with
          power := power, antSel := (s.answer 0).setWidth 8, txTimeout := timeout, txValid := true }
        trace := s.trace ++ [.ri (.setRfTxPower power)] } := by
  simp only [State.txConfigTail, State.setPower_eq]
  rfl

/-- A record outside RFW mode programs its longest payload (R155). -/
theorem State.genericLength_hardware (s : State) (g : Gcfg) {gm : GenericModes} (h : gm.rfw = false) :
    s.genericLength g gm = { s with mp := { s.mp with payloadLen := g.maxPayloadLen } } := by
  simp [State.genericLength, h, State.setMp]

/-- A record that selects RFW mode initialises the engine and programs its longest frame (R155, R271). -/
theorem State.genericLength_rfw (s : State) (g : Gcfg) {gm : GenericModes} (h : gm.rfw = true) :
    s.genericLength g gm =
      { s.rfwInit with
        mp := { s.mp with
          payloadLen := BitVec.ofNat 16 (frameMax gm.lengthMode gm.crcType g.maxPayloadLen) } } := by
  simp [State.genericLength, h, State.setMp, State.rfwInit, State.setLp]

theorem loraInRange_iff (datarate bandwidth : U32) (coderate : Byte) :
    loraInRange datarate bandwidth coderate = true ↔
      5 ≤ datarate.toNat ∧ datarate.toNat ≤ 12 ∧ bandwidth.toNat ≤ 2 ∧ 1 ≤ coderate.toNat ∧ coderate.toNat ≤ 4 := by
  simp [loraInRange, and_assoc]

theorem ceilDiv_of_ne_zero (a : Nat) {b : Nat} (h : b ≠ 0) : ceilDiv a b = (a + b - 1) / b := by
  simp [ceilDiv, h]

/-! ## Ranges of the generic record (R155) -/

theorem lengthModeOf_cases {b : Byte} {lm : LengthMode} (h : lengthModeOf b = some lm) :
    (b = 0 ∧ lm = .fixed) ∨ (b = 1 ∧ lm = .var1) ∨ (b = 2 ∧ lm = .var2) := by
  have key : ∀ n, b.toNat = n → b = BitVec.ofNat 8 n := fun n h => by subst h; simp
  unfold lengthModeOf at h
  split at h <;> simp at h <;> subst h <;> rename_i h <;> rw [key _ h] <;> simp

theorem crcTypeOf_cases {b : Byte} {ct : CrcType} (h : crcTypeOf b = some ct) :
    (b = 0 ∧ ct = .off) ∨ (b = 1 ∧ ct = .ibm2) ∨ (b = 2 ∧ ct = .ccitt2) ∨ (b = 3 ∧ ct = .other) := by
  have key : ∀ n, b.toNat = n → b = BitVec.ofNat 8 n := fun n h => by subst h; simp
  unfold crcTypeOf at h
  split at h <;> simp at h <;> subst h <;> rename_i h <;> rw [key _ h] <;> simp

theorem whiteModeOf_cases {b : Byte} {wm : WhiteMode} (h : whiteModeOf b = some wm) :
    (b = 0 ∧ wm = .off) ∨ (b = 1 ∧ wm = .hw) ∨ (b = 2 ∧ wm = .ibmSw) := by
  have key : ∀ n, b.toNat = n → b = BitVec.ofNat 8 n := fun n h => by subst h; simp
  unfold whiteModeOf at h
  split at h <;> simp at h <;> subst h <;> rename_i h <;> rw [key _ h] <;> simp

theorem lengthModeOf_none {b : Byte} : lengthModeOf b = none ↔ 2 < b.toNat := by
  unfold lengthModeOf
  split <;> simp_all
  omega

theorem crcTypeOf_none {b : Byte} : crcTypeOf b = none ↔ 3 < b.toNat := by
  unfold crcTypeOf
  split <;> simp_all
  omega

theorem whiteModeOf_none {b : Byte} : whiteModeOf b = none ↔ 2 < b.toNat := by
  unfold whiteModeOf
  split <;> simp_all
  omega

/-- A record in range is accepted with the modes its bytes name (R155). -/
theorem genericModes_of_inRange {g : Gcfg} {lm : LengthMode} {ct : CrcType} {wm : WhiteMode} (h : gcfgInRange g)
    (h1 : lengthModeOf g.lengthMode = some lm) (h2 : crcTypeOf g.crcType = some ct)
    (h3 : whiteModeOf g.whiteMode = some wm) :
    genericModes g = some ⟨lm, ct, wm, g.whiteMode == 2 || g.lengthMode == 2⟩ ∧
      frameMax lm ct g.maxPayloadLen = longestFrame g := by
  obtain ⟨a1, a2, -, -, -, a6, a7, a8, a9, a10⟩ := h
  have hF : frameMax lm ct g.maxPayloadLen = longestFrame g := by
    unfold longestFrame
    rcases lengthModeOf_cases h1 with ⟨p1, q1⟩ | ⟨p1, q1⟩ | ⟨p1, q1⟩ <;>
      rcases crcTypeOf_cases h2 with ⟨p2, q2⟩ | ⟨p2, q2⟩ | ⟨p2, q2⟩ | ⟨p2, q2⟩ <;>
        subst q1 q2 <;> simp [p1, p2, frameMax, lenBytesOf, lenWidthOf, crcBytesOf, crcWidthOf]
  have hR : (wm == .ibmSw || lm == .var2) = (g.whiteMode == 2 || g.lengthMode == 2) := by
    rcases lengthModeOf_cases h1 with ⟨p1, q1⟩ | ⟨p1, q1⟩ | ⟨p1, q1⟩ <;>
      rcases whiteModeOf_cases h3 with ⟨p3, q3⟩ | ⟨p3, q3⟩ | ⟨p3, q3⟩ <;> subst q1 q3 <;> rw [p1, p3] <;> rfl
  have hS : selectsRfw g ↔ (g.whiteMode == 2 || g.lengthMode == 2) = true := by simp [selectsRfw]
  rw [hS] at a7 a8 a9 a10
  refine ⟨?_, hF⟩
  simp only [genericModes, h1, h2, h3, hR, hF]
  rw [if_pos]
  generalize (g.whiteMode == 2 || g.lengthMode == 2) = rfw at a7 a8 a9 a10
  have e3 : ct = .other → g.crcType = 3 := by
    rcases crcTypeOf_cases h2 with ⟨p2, q2⟩ | ⟨p2, q2⟩ | ⟨p2, q2⟩ | ⟨p2, q2⟩ <;> subst q2 <;> simp [p2]
  have e1 : lm = .var1 → g.lengthMode = 1 := by
    rcases lengthModeOf_cases h1 with ⟨p1, q1⟩ | ⟨p1, q1⟩ | ⟨p1, q1⟩ <;> subst q1 <;> simp [p1]
  have a1' : ¬ g.bitrate = 0#32 := a1
  cases rfw
  · have := a8 (by simp)
    simp [a1', a2, a6, this]
  · have b7 : ct ≠ .other := fun h => a7 rfl (e3 h)
    have b9 := a9 rfl
    have b10 : lm = .var1 → g.maxPayloadLen.toNat ≤ 255 := fun h => a10 rfl (e1 h)
    simp [a1', a2, a6, b7, b9]
    exact imp_iff_not_or.1 b10

/-- A record out of range is a range violation (R155). -/
theorem genericModes_of_not_inRange {g : Gcfg} (h : ¬ gcfgInRange g) : genericModes g = none := by
  cases hl : lengthModeOf g.lengthMode with
  | none => simp [genericModes, hl]
  | some lm =>
    cases hc : crcTypeOf g.crcType with
    | none => simp [genericModes, hl, hc]
    | some ct =>
      cases hw : whiteModeOf g.whiteMode with
      | none => simp [genericModes, hl, hc, hw]
      | some wm =>
        simp only [genericModes, hl, hc, hw]
        split
        · rename_i hh
          refine absurd ?_ h
          simp only [Bool.and_eq_true, Bool.not_eq_true', bne_iff_ne, ne_eq, decide_eq_true_eq] at hh
          simp only [Bool.and_eq_false_iff, decide_eq_false_iff_not] at hh
          obtain ⟨⟨⟨⟨⟨⟨a1, a2⟩, a3⟩, a4⟩, a5⟩, a6⟩, a7⟩ := hh
          refine ⟨a1, a2, ?_, ?_, ?_, a3, ?_⟩
          · have := (@lengthModeOf_none g.lengthMode).not.1 (by simp [hl]); omega
          · have := (@crcTypeOf_none g.crcType).not.1 (by simp [hc]); omega
          · have := (@whiteModeOf_none g.whiteMode).not.1 (by simp [hw]); omega
          unfold selectsRfw longestFrame
          rcases lengthModeOf_cases hl with ⟨p1, q1⟩ | ⟨p1, q1⟩ | ⟨p1, q1⟩ <;>
            rcases crcTypeOf_cases hc with ⟨p2, q2⟩ | ⟨p2, q2⟩ | ⟨p2, q2⟩ | ⟨p2, q2⟩ <;>
              rcases whiteModeOf_cases hw with ⟨p3, q3⟩ | ⟨p3, q3⟩ | ⟨p3, q3⟩ <;>
                subst q1 q2 q3 <;>
                  simp [frameMax, lenBytesOf, lenWidthOf, crcBytesOf, crcWidthOf] at a4 a5 a6 a7 <;>
                    simp [p1, p2, p3] <;> omega
        · rfl

end Sys2Proof.Machine
end

