-- ==== Sys2Proof/Laws/Stream.lean ====
section
/-! SUPPORT. One lemma per operation of the streaming units and the frame: what it does to the engine's registers, what it
does to bytes run one after the other, and how many bytes it gives. -/

namespace Sys2Proof.Machine

/-! ## The units on the engine's registers -/

/-- A CRC run writes the CRC register alone (R274). -/
theorem LongPacket.crcRun_eq (l : LongPacket) (b : List Byte) :
    l.crcRun b = { l with crcLfsr := crcOver l l.crcLfsr b } := by
  unfold LongPacket.crcRun crcOver
  split <;> rfl

/-- A whitening run writes the whitening register alone (R273). -/
theorem LongPacket.whiteRun_eq (l : LongPacket) (b : List Byte) :
    l.whiteRun b = ((whitened l l.whiteLfsr b).1, { l with whiteLfsr := (whitened l l.whiteLfsr b).2 }) := by
  unfold LongPacket.whiteRun whitened
  split <;> rfl

theorem LongPacket.trailer_eq (l : LongPacket) : l.trailer = trailerOf l l.crcLfsr := by
  unfold LongPacket.trailer trailerOf LongPacket.crcFinal
  cases l.crcW <;> rfl

/-- `LpFrameWhole` gives the frame of the payload and leaves the units after it (R279). -/
theorem LongPacket.frameWhole_eq (l : LongPacket) (data : List Byte) (size : U16) :
    l.frameWhole data size =
      (frameBytes l size data,
        { l with
          whiteLfsr := (whitened l l.whiteSeed (plainFrame l size data)).2
          crcLfsr := crcOver l l.crcSeed (lenBytes l.lenW size ++ data)
          payloadLen := size, total := BitVec.ofNat 32 (plainFrame l size data).length, remaining := 0
          bufOffset := BitVec.ofNat 8 (plainFrame l size data).length }) := by
  simp only [LongPacket.frameWhole, LongPacket.crcRun_eq, LongPacket.whiteRun_eq, LongPacket.trailer_eq, LongPacket.seed]
  rfl

/-- A transmit chunk: the CRC over the plain bytes, the trailer after the last payload byte, the whole whitened (R281). -/
theorem LongPacket.txChunk_eq (l : LongPacket) (first : Bool) (d : List Byte) :
    l.txChunk first d =
      (let body := (if first then lenBytes l.lenW l.payloadLen else []) ++ d
       let rem := l.remaining - BitVec.ofNat 16 d.length
       let crc := crcOver l l.crcLfsr body
       let w := whitened l l.whiteLfsr (if rem = 0 then body ++ trailerOf l crc else body)
       (w.1, { l with whiteLfsr := w.2, crcLfsr := crc, remaining := rem })) := by
  simp only [LongPacket.txChunk, LongPacket.crcRun_eq, LongPacket.whiteRun_eq, LongPacket.trailer_eq]
  rfl

/-- A receive chunk: de-whitened, its payload into the CRC (R292). -/
theorem LongPacket.rxChunk_eq (l : LongPacket) (n : Nat) (b : List Byte) :
    l.rxChunk n b =
      ((whitened l l.whiteLfsr b).1,
        { l with
          whiteLfsr := (whitened l l.whiteLfsr b).2
          crcLfsr := crcOver l l.crcLfsr ((whitened l l.whiteLfsr b).1.take n) }) := by
  simp only [LongPacket.rxChunk, LongPacket.crcRun_eq, LongPacket.whiteRun_eq]
  rfl

/-! ## Lengths -/

theorem whiteBytes_length (r : BitVec 9) (b : List Byte) : (whiteBytes r b).1.length = b.length := by
  induction b generalizing r with
  | nil => rfl
  | cons x xs ih => simp [whiteBytes, ih]

@[simp] theorem whitened_length (l : LongPacket) (r : BitVec 9) (b : List Byte) :
    (whitened l r b).1.length = b.length := by
  unfold whitened
  split
  · exact whiteBytes_length r b
  · rfl

@[simp] theorem lenBytes_length (w : LenWidth) (n : U16) : (lenBytes w n).length = lenBytesOf w := by cases w <;> rfl

@[simp] theorem trailerOf_length (l : LongPacket) (c : U16) : (trailerOf l c).length = crcBytesOf l.crcW := by
  unfold trailerOf
  cases h : l.crcW <;> simp [crcBytesOf]

@[simp] theorem plainFrame_length (l : LongPacket) (size : U16) (d : List Byte) :
    (plainFrame l size d).length = lenBytesOf l.lenW + d.length + crcBytesOf l.crcW := by
  simp [plainFrame, Nat.add_assoc]

@[simp] theorem State.nextBytes_length (s : State) (n : Nat) : (s.nextBytes n).length = n := by simp [State.nextBytes]

/-! ## Runs one after the other -/

theorem whiteBytes_append (r : BitVec 9) (a b : List Byte) :
    whiteBytes r (a ++ b) =
      ((whiteBytes r a).1 ++ (whiteBytes (whiteBytes r a).2 b).1, (whiteBytes (whiteBytes r a).2 b).2) := by
  induction a generalizing r with
  | nil => rfl
  | cons x xs ih => simp [whiteBytes, ih]

/-- A run in two pieces is the run over both (R273). -/
theorem whitened_append (l : LongPacket) (r : BitVec 9) (a b : List Byte) :
    whitened l r (a ++ b) =
      ((whitened l r a).1 ++ (whitened l (whitened l r a).2 b).1, (whitened l (whitened l r a).2 b).2) := by
  unfold whitened
  split
  · exact whiteBytes_append r a b
  · rfl

/-- A CRC run in two pieces is the run over both (R274). -/
theorem crcOver_append (l : LongPacket) (r : U16) (a b : List Byte) :
    crcOver l r (a ++ b) = crcOver l (crcOver l r a) b := by
  unfold crcOver
  split
  · rfl
  · simp [crcBytes]

/-- The two units, the trailer and the frame depend on the engine's configuration alone. -/
theorem whitened_congr {l m : LongPacket} (h : l.whiteOn = m.whiteOn) : whitened l = whitened m := by
  funext r b
  simp [whitened, h]

theorem crcOver_congr {l m : LongPacket} (h : l.crcW = m.crcW) (hp : l.crcPoly = m.crcPoly) : crcOver l = crcOver m := by
  funext r b
  simp [crcOver, h, hp]

theorem trailerOf_congr {l m : LongPacket} (h : l.crcW = m.crcW) (ht : l.crcType = m.crcType) :
    trailerOf l = trailerOf m := by
  funext c
  simp [trailerOf, h, ht]

end Sys2Proof.Machine
end

