-- ==== Sys2Proof/Laws/LongPacket.lean ====
section
/-! SUPPORT. One lemma per shared operation of the chunked transfer engine and of the start commands: everything it does, as
one record. -/

namespace Sys2Proof.Machine

/-- The application's bytes are the next answers; no callback for none (R281). -/
theorem State.getNextChunk_eq (s : State) (n : Nat) :
    s.getNextChunk n =
      (s.nextBytes n,
        (s.output (if n = 0 then [] else [.cb (.getNextChunk (BitVec.ofNat 16 n))])).skipAnswers n) := by
  unfold State.getNextChunk
  split
  · subst n; simp [State.nextBytes, State.output, State.skipAnswers]
  · rfl

/-- A transmit chunk (R281): the callback, the ring write, and the next chunk's timer while payload remains. -/
theorem State.lpTxChunk_eq (s : State) (first : Bool) (n : Nat) :
    s.lpTxChunk first n =
      (let c := s.lp.txChunk first (s.nextBytes n)
       let last := decide (c.2.remaining = 0)
       let ms := lpChunkMs c.1.length s.lp.bitrate
       { (s.skipAnswers n).useRadioBuffer with
         chunkTimer := if last then s.chunkTimer else ⟨true, ms⟩
         lp := { c.2 with
           bufOffset := s.lp.bufOffset + BitVec.ofNat 8 c.1.length
           phase := if last then .lastChunk else .streaming }
         trace := s.trace ++ (if n = 0 then [] else [.cb (.getNextChunk (BitVec.ofNat 16 n))]) ++
           ringWrite s.lp.bufOffset c.1 ++
           (if last then [] else [.tmr (.setValue .chunk ms), .tmr (.start .chunk)]) }) := by
  unfold State.lpTxChunk
  simp only [State.getNextChunk_eq, State.riWriteBuffer_eq, LongPacket.txChunk_eq]
  by_cases h : s.lp.remaining - BitVec.ofNat 16 (s.nextBytes n).length = 0
  · simp only [h, if_true, decide_true]
    simp [State.setLp, State.output, State.useRadioBuffer, State.skipAnswers]
  · simp only [h, if_false, decide_false]
    simp [State.tmrArm_eq, State.setLp, State.setTimer, State.output, State.useRadioBuffer, State.skipAnswers]

/-- `LpProgramRxLength()` (R289). -/
theorem State.lpProgramRxLength_eq (s : State) :
    s.lpProgramRxLength =
      (let len : U16 := BitVec.ofNat 16 (lenBytesOf s.lp.lenW + s.lp.maxLen.toNat + crcBytesOf s.lp.crcW)
       { s with
         mp := { s.mp with payloadLen := len }
         trace := s.trace ++ [if s.lp.enable then rfwPacket s.mp len else fskPacket s.mp len] }) := by
  cases h : s.lp.enable <;>
    simp [State.lpProgramRxLength, State.setMp, State.ri, State.emit, State.buildPktFsk, h, rfwPacket, fskPacket]

/-- The end of the header procedure (R290). -/
theorem State.lpAcceptLength_eq (s : State) (len : U16) :
    s.lpAcceptLength len =
      if s.lp.maxLen.toNat < len.toNat then s.receiveEnded 4 .rxError
      else State.chunkScheduled
        { s with
          lp := { s.lp with
            payloadLen := len, remaining := len
            total := BitVec.ofNat 32 (lenBytesOf s.lp.lenW + len.toNat + crcBytesOf s.lp.crcW)
            bufOffset := BitVec.ofNat 8 (lenBytesOf s.lp.lenW) } } := by
  unfold State.lpAcceptLength
  rw [State.lpRxFail_eq s .rxError 4 rfl, State.lpScheduleRxChunk_eq]
  rfl

/-- A trailer of the right length mismatches exactly when it differs from the computed one (R292). -/
theorem LongPacket.crcMismatch_eq (l : LongPacket) (t : List Byte) (h : t.length = crcBytesOf l.crcW) :
    l.crcMismatch t = decide (t ≠ trailerOf l l.crcLfsr) := by
  unfold LongPacket.crcMismatch
  cases hw : l.crcW with
  | w0 =>
    rw [hw] at h
    have : t = [] := List.eq_nil_of_length_eq_zero h
    simp [this, trailerOf, hw]
  | w2 =>
    have : beBytes l.crcFinal = trailerOf l l.crcLfsr := by
      rw [← LongPacket.trailer_eq, LongPacket.trailer, hw]; rfl
    rw [this, Bool.eq_iff_iff]
    simp

/-- The receive chunk rule after its read (R292): staged, delivered in long mode, then the next chunk or the end. -/
theorem State.rxChunkStore_eq (s : State) (final : Bool) (n : Nat) (b : List Byte)
    (hn : s.lp.rxPayloadOffset.toNat + n < radioBufSize) (hb : final = true → (b.drop n).length = crcBytesOf s.lp.crcW) :
    s.rxChunkStore final n b =
      (let stage := stageWrite s.rxStage s.lp.rxPayloadOffset.toNat (b.take n)
       let stored := s.lp.rxPayloadOffset + BitVec.ofNat 16 n
       let deliver := decide (s.lp.longMode = true ∧ 0 < n)
       let staged : State :=
         { s with
           rxStage := stage
           lp := { s.lp with
             rxPayloadOffset := if deliver then 0 else stored, remaining := s.lp.remaining - BitVec.ofNat 16 n }
           trace := s.trace ++
             (if deliver && s.lp.chunkCb then [.cb (.storeChunk (stage.take stored.toNat) stored)] else []) }
       if final then
         if b.drop n = trailerOf s.lp s.lp.crcLfsr then staged.receiveDone else staged.receiveEnded 4 .rxError
       else staged.chunkScheduled) := by
  have hc : final = true → ∀ l : LongPacket, l.crcW = s.lp.crcW → l.crcType = s.lp.crcType → l.crcLfsr = s.lp.crcLfsr →
      l.crcMismatch (b.drop n) = decide (b.drop n ≠ trailerOf s.lp s.lp.crcLfsr) := by
    intro hf l h1 h2 h3
    rw [LongPacket.crcMismatch_eq l _ (by rw [h1]; exact hb hf), trailerOf_congr h1 h2, h3]
  unfold State.rxChunkStore
  rw [if_neg (Nat.not_le.2 hn)]
  simp only [State.lpRxFail_eq _ .rxError 4 rfl, State.lpRxDone_eq, State.lpScheduleRxChunk_eq, State.storeChunk]
  by_cases hd : s.lp.longMode = true ∧ 0 < n
  · simp only [hd, and_self, if_true, decide_true]
    cases final
    · cases h : s.lp.chunkCb <;> simp [State.setLp, State.emit]
    · have hm := hc rfl
      by_cases ht : b.drop n = trailerOf s.lp s.lp.crcLfsr
      · rw [ht] at hm
        cases h : s.lp.chunkCb <;> simp [State.setLp, State.emit, hm, ht]
      · cases h : s.lp.chunkCb <;> simp [State.setLp, State.emit, hm, ht]
  · simp only [hd, if_false, decide_false]
    cases final
    · simp
    · have hm := hc rfl
      by_cases ht : b.drop n = trailerOf s.lp s.lp.crcLfsr
      · rw [ht] at hm
        simp [hm, ht]
      · simp [hm, ht]

end Sys2Proof.Machine
end

