-- ==== Sys2Proof/Laws/PerInstr.lean ====
section
/-! SUPPORT. Statements made per instruction: one lemma per constructor of `Instr`. -/

namespace Sys2Proof.Laws.EncodingLength

open Sys2Proof

/-- The packet a well-formed instruction is encoded as has the length the opcode table gives its row (R100, R104). An
instruction of the IRQ or timer port is encoded as no packet. -/
def Statement (i : Instr) : Prop := i.wellFormed = true → ∀ p, encode i = .command p → p.length = packetLength p

theorem of_packet {i : Instr} {p : List Byte} (he : encode i = .command p)
    (hl : i.wellFormed = true → p.length = packetLength p) :
    Statement i := by
  intro hw q hq
  rw [he] at hq
  injection hq with hq
  rw [← hq]
  exact hl hw

theorem init (cbMask : Byte) : Statement (.init cbMask) := of_packet rfl fun _ => rfl

theorem getStatus : Statement .getStatus := of_packet rfl fun _ => rfl

theorem setModem (modem : Byte) : Statement (.setModem modem) := of_packet rfl fun _ => rfl

theorem setChannel (freq : U32) : Statement (.setChannel freq) := of_packet rfl fun _ => rfl

theorem isChannelFree (freq : U32) (rxBandwidth : U32) (rssiThresh : U16) (maxCarrierSenseTime : U32) :
    Statement (.isChannelFree freq rxBandwidth rssiThresh maxCarrierSenseTime) :=
  of_packet rfl fun _ => rfl

theorem random : Statement .random := of_packet rfl fun _ => rfl

theorem setRxConfig (cfg : RxConfig) : Statement (.setRxConfig cfg) := of_packet rfl fun _ => rfl

theorem setTxConfig (cfg : TxConfig) : Statement (.setTxConfig cfg) := of_packet rfl fun _ => rfl

theorem checkRfFrequency (freq : U32) : Statement (.checkRfFrequency freq) := of_packet rfl fun _ => rfl

theorem timeOnAir (air : AirParams) : Statement (.timeOnAir air) := of_packet rfl fun _ => rfl

theorem send (size : Byte) (data : List Byte) : Statement (.send size data) :=
  of_packet rfl fun h => by
    have h : data.length = size.toNat := by simpa [Instr.wellFormed, tailOk] using h
    simp [packetLength, h]; omega

theorem sleep : Statement .sleep := of_packet rfl fun _ => rfl

theorem standby : Statement .standby := of_packet rfl fun _ => rfl

theorem rx (timeout : U32) : Statement (.rx timeout) := of_packet rfl fun _ => rfl

theorem rxBoosted (timeout : U32) : Statement (.rxBoosted timeout) := of_packet rfl fun _ => rfl

theorem startCad : Statement .startCad := of_packet rfl fun _ => rfl

theorem setTxContinuousWave (freq : U32) (power : Byte) (seconds : U16) :
    Statement (.setTxContinuousWave freq power seconds) :=
  of_packet rfl fun _ => rfl

theorem rssi (modem : Byte) : Statement (.rssi modem) := of_packet rfl fun _ => rfl

theorem write (addr : U16) (data : Byte) : Statement (.write addr data) := of_packet rfl fun _ => rfl

theorem read (addr : U16) : Statement (.read addr) := of_packet rfl fun _ => rfl

theorem writeRegisters (addr : U16) (n : Byte) (data : List Byte) : Statement (.writeRegisters addr n data) :=
  of_packet rfl fun h => by
    have h : data.length = n.toNat := by simpa [Instr.wellFormed, tailOk] using h
    simp [packetLength, h, u16Bytes]; omega

theorem readRegisters (addr : U16) (n : Byte) : Statement (.readRegisters addr n) := of_packet rfl fun _ => rfl

theorem setMaxPayloadLength (modem : Byte) (max : Byte) : Statement (.setMaxPayloadLength modem max) :=
  of_packet rfl fun _ => rfl

theorem setPublicNetwork (enable : Bool) : Statement (.setPublicNetwork enable) := of_packet rfl fun _ => rfl

theorem getWakeupTime : Statement .getWakeupTime := of_packet rfl fun _ => rfl

theorem irqProcess : Statement .irqProcess := of_packet rfl fun _ => rfl

theorem setRxDutyCycle (rxTime : U32) (sleepTime : U32) : Statement (.setRxDutyCycle rxTime sleepTime) :=
  of_packet rfl fun _ => rfl

theorem txPrbs : Statement .txPrbs := of_packet rfl fun _ => rfl

theorem txCw (power : Byte) : Statement (.txCw power) := of_packet rfl fun _ => rfl

theorem setRxGenericConfig (cfg : Gcfg) (rxContinuous : Bool) (symbTimeout : U16) :
    Statement (.setRxGenericConfig cfg rxContinuous symbTimeout) :=
  of_packet rfl fun _ => by simp [packetLength, gcfgBytes, bytes8, u16Bytes, u32Bytes]

theorem setTxGenericConfig (cfg : Gcfg) (power : Byte) (timeout : U32) :
    Statement (.setTxGenericConfig cfg power timeout) :=
  of_packet rfl fun _ => by simp [packetLength, gcfgBytes, bytes8, u16Bytes, u32Bytes]

theorem transmitLongPacket (size : U16) (timeout : U32) (chunkCb : Bool) :
    Statement (.transmitLongPacket size timeout chunkCb) :=
  of_packet rfl fun _ => rfl

theorem receiveLongPacket (boostedMode : Bool) (timeout : U32) (chunkCb : Bool) :
    Statement (.receiveLongPacket boostedMode timeout chunkCb) :=
  of_packet rfl fun _ => rfl

theorem lrFhssSetCfg (n : Byte) (cfg : List Byte) : Statement (.lrFhssSetCfg n cfg) :=
  of_packet rfl fun h => by
    have h : cfg.length = n.toNat := by simpa [Instr.wellFormed, tailOk] using h
    simp [packetLength, h]; omega

theorem lrFhssGetTimeOnAirInMs (n : Byte) (cfg : List Byte) : Statement (.lrFhssGetTimeOnAirInMs n cfg) :=
  of_packet rfl fun h => by
    have h : cfg.length = n.toNat := by simpa [Instr.wellFormed, tailOk] using h
    simp [packetLength, h]; omega

theorem irqTxDone : Statement .irqTxDone := fun _ _ h => nomatch h

theorem irqRxDone : Statement .irqRxDone := fun _ _ h => nomatch h

theorem irqPreambleDetected : Statement .irqPreambleDetected := fun _ _ h => nomatch h

theorem irqSyncWordValid : Statement .irqSyncWordValid := fun _ _ h => nomatch h

theorem irqHeaderValid : Statement .irqHeaderValid := fun _ _ h => nomatch h

theorem irqHeaderError : Statement .irqHeaderError := fun _ _ h => nomatch h

theorem irqCrcError : Statement .irqCrcError := fun _ _ h => nomatch h

theorem irqCadDone (detected : Bool) : Statement (.irqCadDone detected) := fun _ _ h => nomatch h

theorem irqTimeout : Statement .irqTimeout := fun _ _ h => nomatch h

theorem irqLrFhssHop : Statement .irqLrFhssHop := fun _ _ h => nomatch h

theorem irqReserved (bits : U16) : Statement (.irqReserved bits) := fun _ _ h => nomatch h

theorem expireTxTimer : Statement .expireTxTimer := fun _ _ h => nomatch h

theorem expireRxTimer : Statement .expireRxTimer := fun _ _ h => nomatch h

theorem expireChunkTimer : Statement .expireChunkTimer := fun _ _ h => nomatch h

end Sys2Proof.Laws.EncodingLength
end

