-- ==== Sys2Proof/Tests/Slice0.lean ====
section
/-! SUPPORT. The model's own tests: ill-formed terms refused, inputs written out from the encoding tables, one-step tests whose
expected outputs are the spec's vectors (`95_test_vectors.md`, by number), and a witness for every obligation's hypotheses. -/

namespace Sys2Proof.Tests

open Sys2Proof Sys2Proof.Machine

/-! ## WellFormed: each check refuses an ill-formed term -/

theorem test_wf_cbMask : (Instr.init 0x80).wellFormed = false := by decide
theorem test_wf_send_tail : (Instr.send 3 [1, 2]).wellFormed = false := by decide
theorem test_wf_writeRegisters_tail : (Instr.writeRegisters 0 1 [1, 2]).wellFormed = false := by decide
theorem test_wf_lrFhssSetCfg_tail : (Instr.lrFhssSetCfg 1 []).wellFormed = false := by decide
theorem test_wf_lrFhssTimeOnAir_tail : (Instr.lrFhssGetTimeOnAirInMs 0 [7]).wellFormed = false := by decide
theorem test_wf_reserved_none : (Instr.irqReserved 0).wellFormed = false := by decide
theorem test_wf_reserved_event_bit : (Instr.irqReserved 0x0401).wellFormed = false := by decide
theorem test_wf_accepts :
    (Instr.init 0x7F).wellFormed = true ∧ (Instr.send 2 [1, 2]).wellFormed = true ∧
    (Instr.irqReserved 0xBC00).wellFormed = true := by decide

/-! ## Decoding: the bytes written out from R104, R106, R107 and R351 -/

/-- The record of section 2.1. -/
def cfg : Gcfg where
  modem := 0
  bitrate := 50000
  fdev := 25000
  bandwidth := 100000
  preambleLen := 5
  syncWordLen := 3
  syncWord := ⟨0xC1, 0x94, 0xC1, 0, 0, 0, 0, 0⟩
  lengthMode := 2
  maxPayloadLen := 1000
  crcType := 2
  crcPoly := 0x1021
  crcSeed := 0x1D0F
  whiteMode := 2
  whiteSeed := 0x1FF

/-- Its 35 bytes, as section 2.1 writes them. -/
def cfgWritten : List Byte :=
  [0x00, 0x50, 0xC3, 0x00, 0x00, 0xA8, 0x61, 0x00, 0x00, 0xA0, 0x86, 0x01, 0x00, 0x05, 0x00, 0x03, 0xC1, 0x94, 0xC1, 0x00,
    0x00, 0x00, 0x00, 0x00, 0x02, 0xE8, 0x03, 0x02, 0x21, 0x10, 0x0F, 0x1D, 0x02, 0xFF, 0x01]

theorem test_decode_lifecycle :
    decodeCommand [0x01, 0x5F] = .ok (.init 0x5F) ∧ decodeCommand [0x02] = .ok .getStatus ∧
    decodeCommand [0x0C] = .ok .sleep ∧ decodeCommand [0x0D] = .ok .standby ∧
    decodeCommand [0x19] = .ok .getWakeupTime ∧ decodeCommand [0x1A] = .ok .irqProcess ∧
    decodeCommand [0x06] = .ok .random ∧ decodeCommand [0x12, 0x01] = .ok (.rssi 1) := by decide

theorem test_decode_configuration :
    decodeCommand [0x03, 0x07] = .ok (.setModem 7) ∧
    decodeCommand [0x04, 0xA0, 0x27, 0xBE, 0x33] = .ok (.setChannel 868100000) ∧
    decodeCommand [0x09, 0xA0, 0x27, 0xBE, 0x33] = .ok (.checkRfFrequency 868100000) ∧
    decodeCommand [0x17, 0x01, 0x33] = .ok (.setMaxPayloadLength 1 51) ∧
    decodeCommand [0x18, 0x01] = .ok (.setPublicNetwork true) := by decide

theorem test_decode_setRxConfig :
    decodeCommand [0x07, 0x01, 0x02, 0x00, 0x00, 0x00, 0x07, 0x00, 0x00, 0x00, 0x03, 0x04, 0x01, 0x00, 0x00, 0x08, 0x02, 0x05,
      0x03, 0x00, 0x21, 0x01, 0x00, 0x09, 0x01, 0x00] =
    .ok (.setRxConfig
      { modem := 1, bandwidth := 2, datarate := 7, coderate := 3, bandwidthAfc := 260, preambleLen := 520
        symbTimeout := 773, fixLen := false, payloadLen := 33, crcOn := true, freqHopOn := false, hopPeriod := 9
        iqInverted := true, rxContinuous := false }) := by decide

theorem test_decode_setTxConfig :
    decodeCommand [0x08, 0x01, 0xFE, 0x0A, 0x00, 0x00, 0x00, 0x02, 0x00, 0x00, 0x00, 0x07, 0x00, 0x00, 0x00, 0x01, 0x08, 0x02,
      0x01, 0x00, 0x01, 0x09, 0x00, 0xB8, 0x0B, 0x00, 0x00] =
    .ok (.setTxConfig
      { modem := 1, power := 0xFE, fdev := 10, bandwidth := 2, datarate := 7, coderate := 1, preambleLen := 520
        fixLen := true, crcOn := false, freqHopOn := true, hopPeriod := 9, iqInverted := false, timeout := 3000 }) := by
  decide

theorem test_decode_isChannelFree :
    decodeCommand [0x05, 0xA0, 0x27, 0xBE, 0x33, 0x50, 0xC3, 0x00, 0x00, 0xAB, 0xFF, 0x05, 0x00, 0x00, 0x00] =
      .ok (.isChannelFree 868100000 50000 (BitVec.ofInt 16 (-85)) 5) := by decide

theorem test_decode_timeOnAir :
    decodeCommand [0x0A, 0x01, 0x00, 0x00, 0x00, 0x00, 0x07, 0x00, 0x00, 0x00, 0x01, 0x08, 0x00, 0x00, 0x14, 0x01] =
      .ok (.timeOnAir
        { modem := 1, bandwidth := 0, datarate := 7, coderate := 1, preambleLen := 8, fixLen := false, payloadLen := 20
          crcOn := true }) := by decide

theorem test_decode_start :
    decodeCommand [0x0B, 0x03, 0x01, 0x02, 0x03] = .ok (.send 3 [1, 2, 3]) ∧ decodeCommand [0x0B, 0x00] = .ok (.send 0 []) ∧
    decodeCommand [0x0E, 0xB8, 0x0B, 0x00, 0x00] = .ok (.rx 3000) ∧
    decodeCommand [0x0F, 0x88, 0x13, 0x00, 0x00] = .ok (.rxBoosted 5000) ∧ decodeCommand [0x10] = .ok .startCad ∧
    decodeCommand [0x11, 0x00, 0xA1, 0xBC, 0x33, 0x0E, 0x05, 0x00] = .ok (.setTxContinuousWave 868000000 14 5) ∧
    decodeCommand [0x20, 0x2C, 0x01, 0xD0, 0x07, 0x00, 0x00, 0x01] = .ok (.transmitLongPacket 300 2000 true) ∧
    decodeCommand [0x21, 0x00, 0x88, 0x13, 0x00, 0x00, 0x01] = .ok (.receiveLongPacket false 5000 true) := by decide

theorem test_decode_pass_through :
    decodeCommand [0x13, 0x40, 0x07, 0x34] = .ok (.write 0x0740 0x34) ∧ decodeCommand [0x14, 0x40, 0x07] = .ok (.read 0x0740) ∧
    decodeCommand [0x15, 0xC0, 0x06, 0x02, 0xC1, 0x94] = .ok (.writeRegisters 0x06C0 2 [0xC1, 0x94]) ∧
    decodeCommand [0x16, 0xC0, 0x06, 0x03] = .ok (.readRegisters 0x06C0 3) := by decide

theorem test_decode_refused :
    decodeCommand [0x1B, 0xE8, 0x03, 0x00, 0x00, 0xD0, 0x07, 0x00, 0x00] = .ok (.setRxDutyCycle 1000 2000) ∧
    decodeCommand [0x1C] = .ok .txPrbs ∧ decodeCommand [0x1D, 0x0E] = .ok (.txCw 14) ∧
    decodeCommand [0x22, 0x02, 0xAA, 0xBB] = .ok (.lrFhssSetCfg 2 [0xAA, 0xBB]) ∧
    decodeCommand [0x23, 0x02, 0xAA, 0xBB] = .ok (.lrFhssGetTimeOnAirInMs 2 [0xAA, 0xBB]) := by decide

theorem test_decode_generic :
    decodeCommand ([0x1E] ++ cfgWritten ++ [0x00, 0x00, 0x00]) = .ok (.setRxGenericConfig cfg false 0) ∧
    decodeCommand ([0x1F] ++ cfgWritten ++ [0x0E, 0xD0, 0x07, 0x00, 0x00]) = .ok (.setTxGenericConfig cfg 14 2000) := by
  decide

theorem test_decode_vectors :
    decodeVector 0x0001 = [.irqTxDone] ∧ decodeVector 0x0002 = [.irqRxDone] ∧ decodeVector 0x0004 = [.irqPreambleDetected] ∧
    decodeVector 0x0008 = [.irqSyncWordValid] ∧ decodeVector 0x0010 = [.irqHeaderValid] ∧
    decodeVector 0x0020 = [.irqHeaderError] ∧ decodeVector 0x0040 = [.irqCrcError] ∧
    decodeVector 0x0080 = [.irqCadDone false] ∧ decodeVector 0x0180 = [.irqCadDone true] ∧
    decodeVector 0x0200 = [.irqTimeout] ∧ decodeVector 0x4000 = [.irqLrFhssHop] ∧
    decodeVector 0x0400 = [.irqReserved 0x0400] ∧ decodeVector 0x0100 = [] := by decide

theorem test_decode_lines :
    decodeTimer 0 = .ok .expireTxTimer ∧ decodeTimer 1 = .ok .expireRxTimer ∧ decodeTimer 2 = .ok .expireChunkTimer ∧
    decodeTimer 3 = .error .badTimerLine := by decide

/-- D2 to D7, D9, D12 of section 2.1. -/
theorem test_decode_malformed :
    decodeCommand [0x01, 0xDF] = .error .cbMaskBit7 ∧ decodeCommand [0x01] = .error .wrongLength ∧
    decodeCommand [0x00] = .error .reservedOpcode ∧ decodeCommand [0x24] = .error .reservedOpcode ∧
    decodeCommand [0xFF, 0x00, 0x00] = .error .reservedOpcode ∧ decodeCommand [0x0B, 0x03, 0x01, 0x02] = .error .wrongLength ∧
    decodeCommand [0x18, 0x02] = .error .badBool ∧
    decodeCommand [0x0E, 0xB8, 0x0B, 0x00, 0x00, 0x00] = .error .wrongLength ∧ decodeCommand [] = .error .emptyPacket := by
  decide

theorem test_tableWord :
    decodeTableWord 8 0x01 = some (.init 0) ∧ decodeTableWord 8 0x0B = some (.send 0 []) ∧
    decodeTableWord 16 0x0180 = some (.irqCadDone true) ∧ decodeTableWord 16 0x0400 = some (.irqReserved 0x0400) ∧
    decodeTableWord 8 0x00 = some .expireTxTimer ∧ decodeTableWord 16 0x5F01 = some (.init 0x5F) := by decide +kernel

/-! ## States for the one-step tests -/

/-- A LoRa configuration for both directions, idle (the state before of section 2.4). -/
def ready : State :=
  { State.reset with
    initialised := true
    cbMask := 0x7F
    mp := { ModemParams.reset with
      modem := .lora, datarate := 7, bw := 125000, coderate := 1, preambleLen := 8, fixLen := false, lengthMode := .var1
      crcOn := true, crcType := .other, txTimeout := 3000, antSel := 1, rxValid := true, txValid := true } }

/-- The engine's configuration of M24. -/
def engine : LongPacket :=
  { LongPacket.reset with
    enable := true, lenW := .w2, crcW := .w2, crcType := .ccitt2, crcPoly := 0x1021, crcSeed := 0x1D0F, whiteOn := true
    whiteSeed := 0x1FF, maxLen := 1000, fixedLen := 1000, bitrate := 50000 }

/-- The configuration of M24 for both directions, idle. -/
def rfw : State :=
  { State.reset with
    initialised := true
    cbMask := 0x7F
    mp := { ModemParams.reset with
      datarate := 50000, bw := 100000, fdev := 25000, preambleLen := 5, syncWordLen := 3, syncWord := cfg.syncWord
      lengthMode := .var2, fixLen := false, maxPayloadLen := 1000, payloadLen := 1004, crcOn := true, crcType := .ccitt2
      crcPoly := 0x1021, crcSeed := 0x1D0F, whiteMode := .ibmSw, whiteSeed := 0x1FF, antSel := 1, power := 14
      txTimeout := 2000, rxValid := true, txValid := true }
    lp := engine }

/-- A transmission runs. -/
def sending : State := { ready with radioState := .txRunning, irqMaskShadow := 0x0201, txTimer := ⟨true, 3000⟩ }

/-- A reception with a timeout runs. -/
def receiving : State := { ready with radioState := .rxRunning, irqMaskShadow := 0x0262, rxTimer := ⟨true, 3000⟩ }

/-- A channel-activity detection runs. -/
def sensing : State := { ready with radioState := .cad, irqMaskShadow := 0x0180 }

/-- A long transmit after the first write of a payload of 252 bytes (table LT), the last payload byte ready. -/
def chunkDue : State :=
  { rfw with
    radioState := .txRunning, irqMaskShadow := 0x0201, txTimer := ⟨true, 2000⟩, chunkTimer := ⟨true, 41⟩
    lp := { engine with
      phase := .streaming, dir := .tx, longMode := true, chunkCb := true, total := 256, remaining := 1, payloadLen := 252
      bufOffset := 253, crcLfsr := 0x8D67, whiteLfsr := 0x1E2 }
    env := ⟨[], [0xE0], [], 0⟩ }

/-- A long reception waits for its sync word. -/
def headerDue : State :=
  { rfw with
    radioState := .rxRunning, irqMaskShadow := 0x0208, rxTimer := ⟨true, 5000⟩
    lp := { engine with phase := .headerPending, dir := .rx, longMode := true, chunkCb := true } }

/-- A long reception of one byte before its last chunk (tables LT and LR, L = 1): the frame's bytes `1E 77 4C` are ready. -/
def lastDue : State :=
  { headerDue with
    chunkTimer := ⟨true, 1⟩
    lp := { headerDue.lp with
      phase := .lastChunk, total := 5, remaining := 1, payloadLen := 1, bufOffset := 2, crcLfsr := 0x94E1, whiteLfsr := 0x01D }
    env := ⟨[], [0x1E, 0x77, 0x4C, 5, 6, 7], [], 0⟩ }

/-- The same state with answers ready. -/
def withAnswers (s : State) (answers : List U32) : State := { s with env := { s.env with answers := answers } }

/-- The same state with inputs ready. -/
def withInputs (s : State) (inputs : List Input) : State := { s with env := { s.env with inputs := inputs } }

/-- The four operations of `Abort()`. -/
def abortOps : List Output := [.tmr (.stop .tx), .tmr (.stop .rx), .tmr (.stop .chunk), standbyOutput]

def ok : Output := .response [0x00, 0x00, 0x00, 0x00]
def error : Output := .response [0xFF, 0xFF, 0xFF, 0xFF]
def unsupported : Output := .response [0xFE, 0xFF, 0xFF, 0xFF]

/-! ## Lifecycle and queries -/

/-- C1, Z5. -/
theorem test_init :
    (({ sending with fault := 0x2 }).after (.init 0x5F)).trace = [.tmr (.init .tx), .tmr (.init .rx), .tmr (.init .chunk),
      standbyOutput, .ri (.setDioIrqParams 0x0000), ok] ∧
    (({ sending with fault := 0x2 }).after (.init 0x5F)).fault = 0x2 := ⟨rfl, rfl⟩

/-- C19. -/
theorem test_getStatus :
    (ready.after .getStatus).trace = [.response [0x00]] ∧ (receiving.after .getStatus).trace = [.response [0x01]] ∧
    (sending.after .getStatus).trace = [.response [0x02]] ∧ (sensing.after .getStatus).trace = [.response [0x03]] :=
  ⟨rfl, rfl, rfl, rfl⟩

/-- C9. -/
theorem test_standby :
    (sending.after .standby).trace = abortOps ++ [ok] ∧ (sending.after .standby).radioState = .idle := ⟨rfl, rfl⟩

/-- C10. -/
theorem test_sleep :
    (sensing.after .sleep).trace =
      [.tmr (.stop .tx), .tmr (.stop .rx), .tmr (.stop .chunk), .ri (.setSleep Config.sleepParams), ok] := rfl

theorem test_checkRfFrequency :
    (State.reset.after (.checkRfFrequency 868100000)).trace =
      [.response [if Config.freqSupported 868100000 then 1 else 0]] := rfl

theorem test_getWakeupTime :
    (State.reset.after .getWakeupTime).trace = [.response (u32Bytes Config.wakeupTimeMs)] := rfl

/-- T1 and T12. -/
theorem test_timeOnAir_lora :
    (State.reset.after (.timeOnAir ⟨1, 0, 7, 1, 8, false, 20, true⟩)).trace = [.response [0x39, 0x00, 0x00, 0x00]] ∧
    (State.reset.after (.timeOnAir ⟨1, 0, 7, 1, 8, false, 3, true⟩)).trace = [.response [0x1F, 0x00, 0x00, 0x00]] := by
  decide +kernel

/-- T14, T4, T11. -/
theorem test_timeOnAir_corners :
    timeOnAirMs ⟨0, 0, 50000, 0, 5, false, 20, true⟩ = 5 ∧ timeOnAirMs ⟨1, 0, 6, 4, 6, true, 0, false⟩ = 14 ∧
    timeOnAirMs ⟨1, 0, 12, 4, 65535, false, 255, true⟩ = 2161222 := by decide +kernel

/-! ## Configuration -/

theorem test_setModem :
    (ready.after (.setModem 3)).mp.modem = .bpsk ∧ (ready.after (.setModem 7)).trace = [unsupported] := ⟨rfl, rfl⟩

/-- M23. -/
theorem test_setChannel :
    (ready.after (.setChannel 868100000)).trace = [.ri (.setRfFrequency 868100000), ok] := rfl

/-- M22. -/
theorem test_setPublicNetwork :
    (ready.after (.setPublicNetwork true)).trace =
      [.ri (.write Config.addrLoraSyncword (Config.loraSyncwordPublic.extractLsb' 8 8)),
        .ri (.write (Config.addrLoraSyncword + 1) (Config.loraSyncwordPublic.extractLsb' 0 8)), ok] := rfl

/-- M13: the preamble is floored. -/
theorem test_setRxConfig_lora :
    ((withAnswers ready [0x0F]).after (.setRxConfig ⟨1, 0, 6, 1, 0, 8, 5, false, 0, true, false, 0, false, false⟩)).trace =
      abortOps ++ [.ri (.setModulationParams (.lora 6 125000 1 false)),
        .ri (.setPacketParams (.lora 12 false 255 true false 5)), .ri (.read Config.addrIqPolarity),
        .ri (.write Config.addrIqPolarity (0x0F#8 ||| (1#8 <<< Config.iqPolBit.val))), ok] := rfl

/-- M16. -/
theorem test_setRxConfig_sigfox :
    (ready.after (.setRxConfig ⟨5, 1600, 600, 0, 0, 0, 0, true, 15, false, false, 0, false, true⟩)).trace =
      abortOps ++ [.ri (.setModulationParams (.fsk false 600 0 (Config.fskBwCode 1600))),
        .ri (.setPacketParams (.fsk 0 2
          ⟨Config.syncwordSigfoxRx.1, Config.syncwordSigfoxRx.2, 0, 0, 0, 0, 0, 0⟩ true 15 .off Config.fskCrcPoly
          Config.fskCrcSeed false 0x01FF)), ok] := rfl

/-- M12. -/
theorem test_setTxConfig_lora :
    ((withAnswers ready [0x00, 1]).after
      (.setTxConfig ⟨1, 14, 0, 0, 12, 1, 8, false, true, false, 0, false, 4000⟩)).trace =
      abortOps ++ [.ri (.setModulationParams (.lora 12 125000 1 true)),
        .ri (.setPacketParams (.lora 8 false 255 true false 0)), .ri (.read Config.addrIqPolarity),
        .ri (.write Config.addrIqPolarity (0x00#8 ||| (1#8 <<< Config.iqPolBit.val))), .ri (.setRfTxPower 14), ok] := rfl

/-- Program 5 step 2. -/
theorem test_setTxConfig_sigfox :
    ((withAnswers ready [1]).after
      (.setTxConfig ⟨4, 14, 0, 0, 100, 0, 0, false, false, false, 0, false, 2000⟩)).trace =
      abortOps ++ [.ri (.setModulationParams (.bpsk 100)), .ri (.setPacketParams (.bpsk 255)), .ri (.setRfTxPower 14), ok] :=
  rfl

/-- M24. -/
theorem test_setRxGenericConfig :
    (ready.after (.setRxGenericConfig cfg false 0)).trace =
      abortOps ++ [.ri (.setModulationParams (.fsk false 50000 0 (Config.fskBwCode 100000))),
        .ri (.setPacketParams (.fsk 5 3 ⟨0xC1, 0x94, 0xC1, 0, 0, 0, 0, 0⟩ true 1004 .off 0x1021 0x1D0F false 0x1FF)), ok] ∧
    (ready.after (.setRxGenericConfig cfg false 0)).lp = engine := ⟨rfl, rfl⟩

/-- M26 and M25. -/
theorem test_setRxGenericConfig_hardware :
    (ready.after (.setRxGenericConfig { cfg with lengthMode := 1, maxPayloadLen := 200, whiteMode := 1 } false 0)).lp.enable =
      false ∧
    (ready.after (.setRxGenericConfig { cfg with crcType := 3 } false 0)).trace = [error] := ⟨rfl, rfl⟩

/-- Program 4 step 3. -/
theorem test_setTxGenericConfig :
    ((withAnswers ready [1]).after (.setTxGenericConfig cfg 14 2000)).trace =
      abortOps ++ [.ri (.setModulationParams (.fsk false 50000 25000 (Config.fskBwCode 125000))),
        .ri (.setPacketParams (.fsk 5 3 ⟨0xC1, 0x94, 0xC1, 0, 0, 0, 0, 0⟩ true 1004 .off 0x1021 0x1D0F false 0x1FF)),
        .ri (.setRfTxPower 14), ok] := rfl

/-- M28. -/
theorem test_setTxGenericConfig_lora :
    (ready.after (.setTxGenericConfig { cfg with modem := 1 } 14 2000)).trace = [unsupported] := rfl

/-- M20 and M21. -/
theorem test_setMaxPayloadLength :
    (ready.after (.setMaxPayloadLength 1 51)).trace = [.ri (.setPacketParams (.lora 8 false 51 true false 0)), ok] ∧
    (ready.after (.setMaxPayloadLength 0 51)).trace = [error] ∧
    (ready.after (.setMaxPayloadLength 3 51)).trace = [unsupported] := ⟨rfl, rfl, rfl⟩

/-! ## Start commands and sensing -/

/-- C2. -/
theorem test_send_lora :
    (ready.after (.send 3 [1, 2, 3])).trace =
      [.ri (.setDioIrqParams 0x0201), .ri (.setSwitch 1 .tx), .ri (.setPacketParams (.lora 8 false 3 true false 0)),
        .ri (.writeBuffer 0 [1, 2, 3] 3), .tmr (.setValue .tx 3000), .tmr (.start .tx), .ri (.setTx 0), ok] := rfl

/-- F5: a frame of one byte in RFW mode. -/
theorem test_send_rfw :
    ringBytes (rfw.after (.send 1 [0x03])).trace = [0xFF, 0xE0, 0x1E, 0x77, 0x4C] ∧
    (rfw.after (.send 1 [0x03])).lp.whiteLfsr = 0x185 := by decide +kernel

/-- C4 and C5. -/
theorem test_rx :
    (ready.after (.rx 3000)).trace =
      [.ri (.setDioIrqParams 0x0262), .tmr (.setValue .rx 3000), .tmr (.start .rx), .ri (.setSwitch 1 .rx),
        .ri (.setRx 192000), ok] ∧
    (ready.after (.rx 0)).trace =
      [.ri (.setDioIrqParams 0x0262), .ri (.setSwitch 1 .rx), .ri (.setRx 0xFFFFFF), ok] := ⟨rfl, rfl⟩

/-- C4: the tick conversion wraps. -/
theorem test_rx_ticks : msToTicks 0x04000000 = 0 ∧ msToTicks 0x03FFFFFF = 0xFFFFFFC0 := by decide

/-- C6. -/
theorem test_rxBoosted :
    (ready.after (.rxBoosted 3000)).trace =
      [.ri (.setDioIrqParams 0x0262), .tmr (.setValue .rx 3000), .tmr (.start .rx), .ri (.setSwitch 1 .rx),
        .ri (.setRxBoosted 192000), ok] := rfl

/-- C7, with the abort of R210 from a running reception. -/
theorem test_startCad :
    (receiving.after .startCad).trace =
      abortOps ++ [.ri (.setDioIrqParams 0x0180), .ri (.setSwitch 1 .rx), .ri .setCad, ok] := rfl

/-- C18. -/
theorem test_setTxContinuousWave :
    ((withAnswers ready [1]).after (.setTxContinuousWave 868000000 14 5)).trace =
      [.ri (.setRfFrequency 868000000), .ri (.setRfTxPower 14), .ri (.setSwitch 1 .tx), .ri (.setDioIrqParams 0x0000),
        .ri .setTxContinuousWave, .tmr (.setValue .tx 5000), .tmr (.start .tx), ok] := rfl

/-- C12 and C13: the answer after the samples -100, -97, -80, and after the first two alone. -/
theorem test_isChannelFree :
    let s := { ready with env := ⟨[], [], [[(0, BitVec.ofInt 16 (-100)), (2, BitVec.ofInt 16 (-97)),
      (4, BitVec.ofInt 16 (-80))]], 0⟩ }
    (s.sense 868100000 50000 (BitVec.ofInt 16 (-85)) 5).1 = false ∧
    (s.sense 868100000 50000 (BitVec.ofInt 16 (-85)) 4).1 = true := ⟨rfl, rfl⟩

/-- C15: the comparison is strict. -/
theorem test_isChannelFree_strict :
    (({ ready with env := ⟨[], [], [[(0, BitVec.ofInt 16 (-85))]], 0⟩ }).sense 0 0 (BitVec.ofInt 16 (-85)) 5).1 = true := rfl

/-- C16. -/
theorem test_random :
    ((withAnswers ready [0x12345678]).after .random).trace =
      [.ri (.setDioIrqParams 0x0000), .ri .getRandom, .response [0x78, 0x56, 0x34, 0x12]] := rfl

/-- C17. -/
theorem test_rssi :
    ((withAnswers ready [0xFF9F]).after (.rssi 1)).trace = [.ri .getRssiInst, .response [0x9F, 0xFF]] := rfl

/-! ## Pass-through and refused commands -/

/-- D14. -/
theorem test_write : (ready.after (.write 0x0740 0x34)).trace = [.ri (.write 0x0740 0x34), ok] := rfl

theorem test_read :
    ((withAnswers ready [0xAB]).after (.read 0x0740)).trace = [.ri (.read 0x0740), .response [0xAB]] := rfl

theorem test_writeRegisters :
    (ready.after (.writeRegisters 0x06C0 2 [0xC1, 0x94])).trace = [.ri (.writeRegisters 0x06C0 [0xC1, 0x94] 2), ok] ∧
    (ready.after (.writeRegisters 0x06C0 0 [])).trace = [ok] := ⟨rfl, rfl⟩

/-- D15 and D16. -/
theorem test_readRegisters :
    ((withAnswers ready [1, 2, 3]).after (.readRegisters 0x06C0 3)).trace =
      [.ri (.readRegisters 0x06C0 3), .response [1, 2, 3]] ∧
    (ready.after (.readRegisters 0x06C0 0)).trace = [.response []] := ⟨rfl, rfl⟩

/-- D17, C21. -/
theorem test_refused :
    (ready.after (.setRxDutyCycle 1000 2000)).trace = [unsupported] ∧ (ready.after .txPrbs).trace = [unsupported] ∧
    (ready.after (.txCw 14)).trace = [unsupported] ∧ (ready.after (.lrFhssSetCfg 0 [])).trace = [unsupported] :=
  ⟨rfl, rfl, rfl, rfl⟩

/-- D18. -/
theorem test_lrFhssTimeOnAir : (ready.after (.lrFhssGetTimeOnAirInMs 2 [0xAA, 0xBB])).trace = [ok] := rfl

/-! ## Long packets -/

/-- L-TX4: a frame with no payload. -/
theorem test_transmitLongPacket_empty :
    (rfw.after (.transmitLongPacket 0 2000 true)).trace =
      [.ri (.setDioIrqParams 0x0201), .ri (.setSwitch 1 .tx),
        .ri (.setPacketParams (.fsk 5 3 ⟨0xC1, 0x94, 0xC1, 0, 0, 0, 0, 0⟩ true 4 .off 0x1021 0x1D0F false 0x1FF)),
        .ri (.writeBuffer 0 [0xFF, 0xE1, 0x66, 0xA5] 4), .tmr (.setValue .tx 2000), .tmr (.start .tx), .ri (.setTx 0), ok] := by
  decide +kernel

/-- L-TX1 and L-TX2. -/
theorem test_transmitLongPacket_refused :
    (rfw.after (.transmitLongPacket 1001 2000 true)).trace = [error] ∧
    (rfw.after (.transmitLongPacket 300 2000 false)).trace = [error] := ⟨rfl, rfl⟩

/-- Program 4 step 8. -/
theorem test_receiveLongPacket :
    (rfw.after (.receiveLongPacket false 5000 true)).trace =
      [.ri (.setDioIrqParams 0x0208),
        .ri (.setPacketParams (.fsk 5 3 ⟨0xC1, 0x94, 0xC1, 0, 0, 0, 0, 0⟩ true 1004 .off 0x1021 0x1D0F false 0x1FF)),
        .tmr (.setValue .rx 5000), .tmr (.start .rx), .ri (.setSwitch 1 .rx), .ri (.setRx 320000), ok] := rfl

/-- Program 4 step 10: the header of 300 bytes. -/
theorem test_irqSyncWordValid :
    ((withAnswers headerDue [1, 0xFE, 0xCD]).after .irqSyncWordValid).trace =
      [.ri (.pollRxBytes 2 2), .ri (.readBuffer 0 2), .tmr (.setValue .chunk 21), .tmr (.start .chunk)] ∧
    ((withAnswers headerDue [1, 0xFE, 0xCD]).after .irqSyncWordValid).lp.crcLfsr = 0x521F := by decide +kernel

/-- L-RX2: a length above the longest. -/
theorem test_irqSyncWordValid_rejects :
    ((withAnswers headerDue [1, 0xFC, 0x08]).after .irqSyncWordValid).trace =
      [.ri (.pollRxBytes 2 2), .ri (.readBuffer 0 2), .tmr (.stop .rx), .tmr (.stop .chunk), standbyOutput, .cb .rxError] := rfl

/-- Table LT, L = 252, write 2. -/
theorem test_expireChunkTimer_tx :
    (chunkDue.after .expireChunkTimer).trace =
      [.cb (.getNextChunk 1), .ri (.writeBuffer 253 [0x02, 0x5E, 0x04] 3)] ∧
    (chunkDue.after .expireChunkTimer).lp.crcLfsr = 0xDA0B ∧ (chunkDue.after .expireChunkTimer).lp.whiteLfsr = 0x01F := by
  decide +kernel

/-- Table LR, L = 1. -/
theorem test_expireChunkTimer_rx :
    storedBytes (lastDue.after .expireChunkTimer).trace = [0x03] ∧
    (lastDue.after .expireChunkTimer).trace.getLast? = some (.cb (.rxDone [] 1 5 6)) ∧
    (lastDue.after .expireChunkTimer).lp.crcLfsr = 0x125E := by decide +kernel

/-! ## Events and timers -/

/-- Program 1 step 8, X17. -/
theorem test_irqTxDone :
    (sending.after .irqTxDone).trace = [.tmr (.stop .tx), .tmr (.stop .chunk), standbyOutput, .cb .txDone] ∧
    (({ sending with cbMask := 0x5E }).after .irqTxDone).trace = [.tmr (.stop .tx), .tmr (.stop .chunk), standbyOutput] :=
  ⟨rfl, rfl⟩

/-- Program 2 step 10. -/
theorem test_irqRxDone :
    ((withAnswers receiving [4, 0x80, 0xDE, 0xAD, 0xBE, 0xEF, 0xFFA4, 6, 1]).after .irqRxDone).trace =
      [.tmr (.stop .rx), standbyOutput, .ri .getRxBufferStatus, .ri (.readBuffer 0x80 4), .ri .getPacketStatus,
        .cb (.rxDone [0xDE, 0xAD, 0xBE, 0xEF] 4 (BitVec.ofInt 16 (-92)) 6)] := rfl

/-- X5. -/
theorem test_irqCrcError :
    (receiving.after .irqCrcError).trace = [.tmr (.stop .rx), standbyOutput, .cb .rxError] ∧
    (ready.after .irqCrcError).trace = [] := ⟨rfl, rfl⟩

theorem test_irqHeaderError :
    (receiving.after .irqHeaderError).trace = [.tmr (.stop .rx), standbyOutput, .cb .rxError] := rfl

/-- X6, X8. -/
theorem test_irqTimeout :
    (receiving.after .irqTimeout).trace = [.tmr (.stop .rx), .tmr (.stop .chunk), standbyOutput, .cb .rxTimeout] ∧
    (sending.after .irqTimeout).trace = [.tmr (.stop .tx), .tmr (.stop .chunk), standbyOutput, .cb .txTimeout] := ⟨rfl, rfl⟩

/-- X9. -/
theorem test_irqCadDone : (sensing.after (.irqCadDone true)).trace = [standbyOutput, .cb (.cadDone true)] := rfl

/-- X20. -/
theorem test_irq_without_effect :
    receiving.after .irqPreambleDetected = receiving ∧ receiving.after .irqHeaderValid = receiving ∧
    receiving.after .irqLrFhssHop = receiving := ⟨rfl, rfl, rfl⟩

/-- X3. -/
theorem test_irqReserved : (sending.after (.irqReserved 0x0400)).fault = 0x8 := rfl

/-- X4, X10, X2: the raise step. -/
theorem test_raise :
    (sending.raiseIrq 0x8001).irqQ = [.txDone] ∧ (sending.raiseIrq 0x8001).fault = 0x8 ∧
    (receiving.raiseIrq 0x0262).irqQ = [.crcError, .headerError, .timeout, .rxDone] ∧
    ((receiving.raiseIrq 0x0262).raiseIrq 0x0002).fault = 0x4 ∧ (State.reset.raiseIrq 0x43FF).irqQ = [] :=
  ⟨rfl, rfl, rfl, rfl, rfl⟩

/-- Program 2 step 4, Program 5 step 4, Z3. -/
theorem test_expire :
    (receiving.after .expireRxTimer).trace = [.tmr (.stop .rx), .tmr (.stop .chunk), standbyOutput, .cb .rxTimeout] ∧
    (sending.after .expireTxTimer).trace = [.tmr (.stop .tx), .tmr (.stop .chunk), standbyOutput, .cb .txTimeout] ∧
    State.reset.after .expireTxTimer = State.reset ∧ State.reset.after .expireRxTimer = State.reset ∧
    State.reset.after .expireChunkTimer = State.reset := ⟨rfl, rfl, rfl, rfl, rfl⟩

/-- C20, and the dispatch as a command. -/
theorem test_irqProcess :
    (ready.after .irqProcess).trace = [ok] ∧
    (({ sensing with irqQ := [.cadDone false, .cadDone true] }).after .irqProcess).trace =
      [standbyOutput, .cb (.cadDone false), ok] := ⟨rfl, rfl⟩

/-- D19 and D20: a step at the command port before `Init`. -/
theorem test_step_before_init :
    step (withInputs State.reset [.command [0x0E, 0xB8, 0x0B, 0x00, 0x00]]) =
      .next { State.reset with fault := 0x2, trace := [error] } ∧
    step (withInputs State.reset [.command [0x0E, 0xB8, 0x0B, 0x00]]) =
      .next { State.reset with fault := 0x1, trace := [error] } := ⟨rfl, rfl⟩

/-- X12. -/
theorem test_step_bad_line :
    step (withInputs sending [.timer 3]) = .next { sending with fault := 0x8 } := rfl

/-- W5, F1, F3. -/
theorem test_frames :
    (whiteBytes 0x1FF [0x03, 0x01, 0x02, 0x03, 0x0B, 0x02]) = ([0xFC, 0xE0, 0x1F, 0x99, 0xE6, 0x87], 0x033) ∧
    frameBytes { engine with lenW := .w1 } 3 [1, 2, 3] = [0xFC, 0xE0, 0x1F, 0x99, 0xE6, 0x87] ∧
    frameBytes { engine with crcW := .w0, crcType := .off } 5 [0x48, 0x45, 0x4C, 0x4C, 0x4F] =
      [0xFF, 0xE4, 0x55, 0xDF, 0xA1, 0xC9, 0x7C] := by decide +kernel

/-! ## Witnesses: states and operands that meet each obligation's hypotheses, at the boundary of a range where it has one -/

theorem witness_EveryStepKeepsTheInvariant :
    ∃ s t : State, s.Inv ∧ step s = .next t := by
  refine ⟨withInputs chunkDue [.timer 2], _, ⟨?_, ?_, ?_, ?_, ?_, ?_, ?_, ?_, ?_⟩, rfl⟩
  · unfold State.QueueInv; decide +kernel
  · unfold ModemParams.Inv; decide +kernel
  · unfold State.RfwInv; decide +kernel
  · unfold State.SequenceInv; decide +kernel
  · unfold LongPacket.TxInv; decide +kernel
  · unfold LongPacket.RxInv; decide +kernel
  · unfold State.TimerInv; decide +kernel
  · unfold State.BufferInv; decide +kernel
  · unfold State.PreInitInv; decide +kernel

/-- The invariant also holds of a long reception's state. -/
theorem witness_invariant_of_a_reception : lastDue.Inv := by
  refine ⟨?_, ?_, ?_, ?_, ?_, ?_, ?_, ?_, ?_⟩
  · unfold State.QueueInv; decide +kernel
  · unfold ModemParams.Inv; decide +kernel
  · unfold State.RfwInv; decide +kernel
  · unfold State.SequenceInv; decide +kernel
  · unfold LongPacket.TxInv; decide +kernel
  · unfold LongPacket.RxInv; decide +kernel
  · unfold State.TimerInv; decide +kernel
  · unfold State.BufferInv; decide +kernel
  · unfold State.PreInitInv; decide +kernel

theorem witness_FaultInitialisedCbMaskAndValidBitsPersist :
    (∃ t, step (withInputs ready [.dispatch]) = .next t ∧ ready.initialised = true) ∧
    ∃ t, (∀ m, Instr.standby ≠ .init m) ∧ exec .standby ready = .next t ∧ ready.mp.rxValid = true ∧
      ready.mp.txValid = true :=
  ⟨⟨_, rfl, rfl⟩, _, (fun _ h => nomatch h), rfl, rfl, rfl⟩

theorem witness_StepsAppendAndOnlyACommandAnswersOnceAtTheEnd :
    ∀ inp ∈ [Input.command [0x02], .irq 0x0001, .dispatch, .timer 0],
      ∃ t, (withInputs sending [inp]).env.inputs = [inp] ∧ step (withInputs sending [inp]) = .next t := by
  intro inp h
  simp only [List.mem_cons, List.not_mem_nil, or_false] at h
  rcases h with rfl | rfl | rfl | rfl <;> exact ⟨_, rfl, rfl⟩

theorem witness_TerminalCallbacksEndARunningOperation :
    (∃ t, step (withInputs sending [.timer 0]) = .next t) ∧
    ∃ t, isCommand .startCad = true ∧ Instr.startCad ≠ .irqProcess ∧ exec .startCad ready = .next t :=
  ⟨⟨_, rfl⟩, _, rfl, by decide, rfl⟩

theorem witness_CommandsBeforeInitRaiseNotInit :
    notInitResponse (.readRegisters 0 255) = some (List.replicate 255 0) ∧ State.reset.initialised = false := ⟨rfl, rfl⟩

theorem witness_StepRunsTheDecodedInstruction :
    ((withInputs ready [.command [0x02]]).env.inputs = [.command [0x02]] ∧ decodeCommand [0x02] = .ok .getStatus) ∧
    ((withInputs ready [.timer 2]).env.inputs = [.timer 2] ∧ decodeTimer 2 = .ok .expireChunkTimer) ∧
    ((withInputs { ready with irqQ := [.txDone] } [.dispatch]).env.inputs = [.dispatch] ∧
      (withInputs { ready with irqQ := [.txDone] } [.dispatch]).irqQ = [.txDone]) ∧
    ((withInputs ready [.dispatch]).env.inputs = [.dispatch] ∧ (withInputs ready [.dispatch]).irqQ = []) ∧
    State.reset.env.inputs = [] := ⟨⟨rfl, rfl⟩, ⟨rfl, rfl⟩, ⟨rfl, rfl⟩, ⟨rfl, rfl⟩, rfl⟩

theorem witness_ATableWordRunsAsTheNextStep :
    decodeTableWord 16 0x4000 = some .irqLrFhssHop ∧ decodeTableWord 8 0x23 = some (.lrFhssGetTimeOnAirInMs 0 []) := by
  decide +kernel

theorem witness_MalformedInputsRaiseTheirFault :
    ((withInputs ready [.command []]).env.inputs = [.command []] ∧ decodeCommand [] = .error .emptyPacket) ∧
    ((withInputs ready [.timer 3]).env.inputs = [.timer 3] ∧ 2 < (3 : Byte).toNat) ∧
    ((0 : Byte) = 0 ∨ 0x24 ≤ (0 : Byte).toNat) ∧ 0x24 ≤ (0x24 : Byte).toNat := by
  refine ⟨⟨rfl, rfl⟩, ⟨rfl, ?_⟩, ?_, ?_⟩ <;> decide

theorem witness_RaiseStepQueuesEnabledEventsInPriorityOrder :
    let s := withInputs { receiving with irqQ := [.crcError, .headerError, .timeout, .rxDone] } [.irq 0x8002]
    s.irqQ.length ≤ 4 ∧ s.env.inputs = .irq 0x8002 :: [] := ⟨by decide, rfl⟩

theorem witness_DecodeOfEncodeIsTheInstruction :
    (Instr.init 0x7F).wellFormed = true ∧ (Instr.send 255 (List.replicate 255 1)).wellFormed = true ∧
    (Instr.irqReserved 0x8000).wellFormed = true := by decide +kernel

theorem witness_ADecodedPacketIsTheEncodingOfItsInstruction :
    decodeCommand [0x15, 0x00, 0x00, 0x00] = .ok (.writeRegisters 0 0 []) := by decide

theorem witness_RadioStateMovesOnlyByTheTransitionTable :
    ∃ t, exec .irqTimeout sending = .next t ∧ t.radioState = .idle := ⟨_, rfl, rfl⟩

theorem witness_RegistersChangeOnlyByTheirWriters :
    (∃ t, exec .irqTimeout sending = .next t) ∧ writesIrqMask .irqTimeout = false ∧ writesModemParams .irqTimeout = false ∧
    writesEngineConfig .irqTimeout = false ∧ writesStreamRegisters .irqTimeout = false ∧ writesRxStage .irqTimeout = false ∧
    usesRadioBuffer .irqTimeout = false := ⟨⟨_, rfl⟩, rfl, rfl, rfl, rfl, rfl, rfl⟩

theorem witness_SetRxConfigForFskAndSigfoxRx :
    let c : RxConfig := ⟨0, 50000, 1, 0, 0, 5, 65535, false, 0, true, false, 0, false, false⟩
    ready.initialised = true ∧ c.datarate ≠ 0 ∧ c.modem = 0 ∧ ({ c with modem := 5 }).datarate ≠ 0 ∧
    ({ c with modem := 5 }).modem = 5 := by decide

theorem witness_SetRxConfigForLora :
    ∀ c ∈ [(⟨1, 0, 5, 1, 0, 8, 5, false, 0, true, false, 0, false, false⟩ : RxConfig),
        ⟨1, 2, 12, 4, 0, 8, 5, true, 255, true, false, 0, true, true⟩],
      ready.initialised = true ∧ c.modem = 1 ∧ 5 ≤ c.datarate.toNat ∧ c.datarate.toNat ≤ 12 ∧ c.bandwidth.toNat ≤ 2 ∧
      1 ≤ c.coderate.toNat ∧ c.coderate.toNat ≤ 4 := by decide

theorem witness_SetTxConfigForFskAndSigfoxTx :
    let c : TxConfig := ⟨0, 14, 25000, 50000, 1, 0, 5, false, true, false, 0, false, 3000⟩
    ready.initialised = true ∧ c.datarate ≠ 0 ∧ c.modem = 0 ∧ ({ c with modem := 4 }).datarate ≠ 0 ∧
    ({ c with modem := 4 }).modem = 4 := by decide

theorem witness_SetTxConfigForLora :
    ∀ c ∈ [(⟨1, 14, 0, 0, 5, 1, 8, false, true, false, 0, false, 4000⟩ : TxConfig),
        ⟨1, 14, 0, 2, 12, 4, 8, true, true, false, 0, true, 4000⟩],
      ready.initialised = true ∧ c.modem = 1 ∧ 5 ≤ c.datarate.toNat ∧ c.datarate.toNat ≤ 12 ∧ c.bandwidth.toNat ≤ 2 ∧
      1 ≤ c.coderate.toNat ∧ c.coderate.toNat ≤ 4 := by decide

/-- Every clause, in order, at the first value past its range. -/
theorem witness_UnsupportedKindsAndRangesAreRefusedWithoutEffect :
    let r : RxConfig := ⟨2, 0, 4, 1, 0, 8, 5, false, 0, true, false, 0, false, false⟩
    let x : TxConfig := ⟨2, 14, 0, 3, 5, 1, 8, false, true, false, 0, false, 4000⟩
    ready.initialised = true ∧ 5 < (6 : Byte).toNat ∧ (r.modem ≠ 0 ∧ r.modem ≠ 1 ∧ r.modem ≠ 5) ∧
    (x.modem ≠ 0 ∧ x.modem ≠ 1 ∧ x.modem ≠ 4) ∧ ({ cfg with modem := 1 }).modem ≠ 0 ∧
    (({ cfg with modem := 1 }).modem ≠ 0 ∧ ({ cfg with modem := 1 }).modem ≠ 2 ∧ ({ cfg with modem := 1 }).modem ≠ 3) ∧
    ((2 : Byte) ≠ 0 ∧ (2 : Byte) ≠ 1) ∧
    (({ r with modem := 5, datarate := 0 }).modem = 5 ∧ ({ r with modem := 5, datarate := 0 }).datarate = 0) ∧
    (({ r with modem := 1 }).modem = 1 ∧ ¬ 5 ≤ ({ r with modem := 1 }).datarate.toNat) ∧
    (({ x with modem := 4, datarate := 0 }).modem = 4 ∧ ({ x with modem := 4, datarate := 0 }).datarate = 0) ∧
    (({ x with modem := 1 }).modem = 1 ∧ ¬ ({ x with modem := 1 }).bandwidth.toNat ≤ 2) ∧
    (cfg.modem = 0 ∧ ¬ gcfgInRange { cfg with whiteSeed := 512 }) ∧
    (({ cfg with modem := 2 }).modem = 2 ∧ ¬ gcfgInRange { cfg with modem := 2, syncWordLen := 9 }) ∧
    (({ cfg with modem := 3, bitrate := 0 }).modem = 3 ∧ ({ cfg with modem := 3, bitrate := 0 }).bitrate = 0) := by
  refine ⟨rfl, by decide, by decide, by decide, by decide, by decide, by decide, by decide, by decide, by decide, by decide,
    ⟨rfl, fun h => absurd h.2.2.2.2.2.1 (by decide)⟩, ⟨rfl, fun h => absurd h.2.1 (by decide)⟩, by decide⟩

/-- The longest record in range: `Var2` with a CRC, `2 + 65531 + 2` = 65535. -/
theorem witness_SetRxGenericConfigResult :
    let g := { cfg with maxPayloadLen := 65531, whiteSeed := 511, syncWordLen := 8 }
    ready.initialised = true ∧ g.modem = 0 ∧ gcfgInRange g ∧ lengthModeOf g.lengthMode = some .var2 ∧
    crcTypeOf g.crcType = some .ccitt2 ∧ whiteModeOf g.whiteMode = some .ibmSw := by
  simp only [gcfgInRange, selectsRfw, longestFrame]
  decide

/-- Both kinds; the longest record outside RFW mode. -/
theorem witness_SetTxGenericConfigForFskAndMsk :
    let g := { cfg with modem := 2, lengthMode := 1, maxPayloadLen := 255, crcType := 3, whiteMode := 1 }
    ready.initialised = true ∧ g.modem = (if true then 2 else 0) ∧ cfg.modem = (if false then 2 else 0) ∧ gcfgInRange g ∧
    lengthModeOf g.lengthMode = some .var1 ∧ crcTypeOf g.crcType = some .other ∧ whiteModeOf g.whiteMode = some .hw := by
  simp only [gcfgInRange, selectsRfw, longestFrame]
  decide

theorem witness_SetTxGenericConfigForBpsk :
    ready.initialised = true ∧ ({ cfg with modem := 3, bitrate := 1 }).modem = 3 ∧
    ({ cfg with modem := 3, bitrate := 1 }).bitrate ≠ 0 := by decide

theorem witness_RepeatedConfigurationPushesTheSameRecords :
    ∃ t u, exec (.setRxGenericConfig cfg false 0) ready = .next t ∧ exec (.setRxGenericConfig cfg false 0) t = .next u :=
  ⟨_, _, rfl, rfl⟩

/-- Every clause: FSK, FSK with no bit rate, LoRa at both ends of its ranges, LoRa out of range, another kind. -/
theorem witness_TimeOnAirIsTheLeastIntegerNotBelowTheQuotient :
    let a : AirParams := ⟨1, 0, 5, 1, 8, false, 20, true⟩
    let b : AirParams := ⟨1, 2, 12, 4, 8, false, 20, true⟩
    ({ a with modem := 0 }).modem = 0 ∧ ({ a with modem := 0 }).datarate ≠ 0 ∧ ({ a with datarate := 0 }).datarate = 0 ∧
    (a.modem = 1 ∧ 5 ≤ a.datarate.toNat ∧ a.datarate.toNat ≤ 12 ∧ a.bandwidth.toNat ≤ 2 ∧ 1 ≤ a.coderate.toNat ∧
      a.coderate.toNat ≤ 4) ∧
    (b.modem = 1 ∧ 5 ≤ b.datarate.toNat ∧ b.datarate.toNat ≤ 12 ∧ b.bandwidth.toNat ≤ 2 ∧ 1 ≤ b.coderate.toNat ∧
      b.coderate.toNat ≤ 4) ∧
    ({ a with datarate := 13 }).modem = 1 ∧ 12 < ({ a with datarate := 13 }).datarate.toNat ∧
    1 < ({ a with modem := 2 }).modem.toNat := by decide

theorem witness_TimeOnAirIsPureMonotoneAndFloored :
    let a : AirParams := ⟨1, 0, 6, 1, 11, false, 20, true⟩
    let b : AirParams := { a with payloadLen := 255, preambleLen := 65535 }
    let c : AirParams := { a with preambleLen := 12 }
    (b = { a with payloadLen := b.payloadLen, preambleLen := b.preambleLen } ∧ a.payloadLen.toNat ≤ b.payloadLen.toNat ∧
      a.preambleLen.toNat ≤ b.preambleLen.toNat) ∧
    (c = { a with preambleLen := 12 } ∧ a.modem = 1 ∧ (a.datarate = 5 ∨ a.datarate = 6) ∧ a.preambleLen.toNat < 12) := by
  decide

/-- A kind of each record, and Sigfox at its longest payload. -/
theorem witness_SendOutsideRfwMode :
    ∀ k ∈ [ModemKind.lora, .fsk, .msk, .bpsk, .sigfoxTx],
      let s := { ready with mp := { ready.mp with modem := k } }
      let d : List Byte := List.replicate 254 1
      d.length = (254 : Byte).toNat ∧ s.initialised = true ∧ s.mp.txValid = true ∧ s.lp.enable = false ∧
      s.mp.modem ≠ .sigfoxRx ∧ (s.mp.modem = .sigfoxTx → (254 : Byte).toNat + 1 ≤ 255) := by decide +kernel

/-- The longest whole frame (L-TX5). -/
theorem witness_SendInRfwMode :
    let d : List Byte := List.replicate 251 1
    d.length = (251 : Byte).toNat ∧ rfw.initialised = true ∧ rfw.mp.txValid = true ∧ rfw.lp.enable = true ∧
    rfw.mp.modem ≠ .sigfoxRx ∧ (rfw.mp.modem = .sigfoxTx → (251 : Byte).toNat + 1 ≤ 255) ∧
    (251 : Byte).toNat ≤ rfw.lp.maxLen.toNat ∧
    lenBytesOf rfw.lp.lenW + (251 : Byte).toNat + crcBytesOf rfw.lp.crcW ≤ 255 := by decide +kernel

/-- Every clause, in order: C22, C11, L-TX6, C23, C11, L-TX1 and L-TX2, and a reception with no chunk callback. -/
theorem witness_StartCommandsRefuseByStatusAlone :
    (ready.mp.txValid = true ∧ ({ ready.mp with modem := .sigfoxRx }).modem = .sigfoxRx) ∧
    ({ ready.mp with txValid := false }).txValid = false ∧
    (rfw.mp.modem ≠ .sigfoxRx ∧ rfw.lp.enable = true ∧
      255 < lenBytesOf rfw.lp.lenW + (252 : Byte).toNat + crcBytesOf rfw.lp.crcW) ∧
    (({ ready.mp with modem := .sigfoxTx }).modem = .sigfoxTx ∧ 255 < (255 : Byte).toNat + 1) ∧
    ({ ready.mp with rxValid := false }).rxValid = false ∧ rfw.lp.maxLen.toNat < (1001 : U16).toNat ∧
    ready.lp.enable = false := by decide +kernel

theorem witness_RxAndRxBoostedOutsideRfwMode :
    receiving.initialised = true ∧ receiving.mp.rxValid = true ∧ receiving.lp.enable = false := by decide +kernel

theorem witness_ReceiveStartsInRfwMode :
    headerDue.initialised = true ∧ headerDue.mp.rxValid = true ∧ headerDue.lp.enable = true := by decide +kernel

theorem witness_IsChannelFreePollsUntilASampleExceedsTheThreshold : sending.initialised = true := rfl

theorem witness_IrqProcessDispatchesTheHeadOfTheQueue :
    State.reset.initialised = false ∧ (ready.initialised = true ∧ ready.irqQ = []) ∧
    (({ sending with irqQ := [.txDone, .timeout] }).initialised = true ∧
      ({ sending with irqQ := [.txDone, .timeout] }).irqQ = .txDone :: [.timeout]) := ⟨rfl, ⟨rfl, rfl⟩, rfl, rfl⟩

theorem witness_TxDoneAndTimeoutEndATransmission :
    sending.radioState = .txRunning ∧ sending.txTimer.armed = true := ⟨rfl, rfl⟩

theorem witness_TimeoutsErrorsAndCadDoneEndTheirOperation :
    (receiving.radioState = .rxRunning ∧ receiving.rxTimer.armed = true ∧ receiving.lp.dir = .none) ∧
    sensing.radioState = .cad := ⟨⟨rfl, rfl, rfl⟩, rfl⟩

theorem witness_RxDoneReadsThePayloadAndReportsIt : receiving.radioState = .rxRunning ∧ receiving.lp.dir = .none :=
  ⟨rfl, rfl⟩

/-- Every clause, in order. -/
theorem witness_UnexpectedEventsAndExpiriesAreDropped :
    ready.radioState ≠ .txRunning ∧ (headerDue.radioState = .rxRunning ∧ headerDue.lp.dir ≠ .none) ∧
    (sensing.radioState ≠ .txRunning ∧ sensing.radioState ≠ .rxRunning) ∧ ready.radioState ≠ .cad ∧
    lastDue.lp.phase ≠ .headerPending ∧ ready.txTimer.armed = false ∧ ready.rxTimer.armed = false ∧
    ready.chunkTimer.armed = false ∧
    (({ ready with txTimer := ⟨true, 1⟩ }).txTimer.armed = true ∧ ready.radioState ≠ .txRunning) ∧
    (({ ready with rxTimer := ⟨true, 1⟩ }).rxTimer.armed = true ∧ ready.radioState ≠ .rxRunning) ∧
    (({ headerDue with chunkTimer := ⟨true, 1⟩ }).chunkTimer.armed = true ∧
      ¬(headerDue.radioState = .txRunning ∧ headerDue.lp.dir = .tx ∧ headerDue.lp.phase = .streaming) ∧
      ¬(headerDue.radioState = .rxRunning ∧ headerDue.lp.dir = .rx ∧
        (headerDue.lp.phase = .streaming ∨ headerDue.lp.phase = .lastChunk))) := by decide +kernel

/-- The longest and the shortest payload, and a fixed-length engine. -/
theorem witness_TransmitLongPacketWritesTheFirstChunk :
    (∀ size ∈ [(0 : U16), 1000],
      rfw.initialised = true ∧ rfw.mp.txValid = true ∧ rfw.lp.enable = true ∧ size.toNat ≤ rfw.lp.maxLen.toNat ∧
      (rfw.lp.lenW = .w1 → size.toNat ≤ 255) ∧ (rfw.lp.lenW = .w0 → size = rfw.lp.fixedLen)) ∧
    ({ engine with lenW := .w0 }).lenW = .w0 ∧ (1000 : U16) = engine.fixedLen := by
  refine ⟨fun size h => ⟨rfl, rfl, rfl, ?_, nofun, nofun⟩, rfl, rfl⟩
  simp only [List.mem_cons, List.not_mem_nil, or_false] at h
  rcases h with rfl | rfl <;> exact Nat.le_of_ble_eq_true rfl

theorem witness_ChunkExpiryWritesTheNextTransmitChunk :
    chunkDue.chunkTimer.armed = true ∧ chunkDue.radioState = .txRunning ∧ chunkDue.lp.dir = .tx ∧
    chunkDue.lp.phase = .streaming := ⟨rfl, rfl, rfl, rfl⟩

/-- With and without a length field, with the header arrived and not. -/
theorem witness_SyncWordValidRunsTheHeaderProcedure :
    (headerDue.radioState = .rxRunning ∧ headerDue.lp.dir = .rx ∧ headerDue.lp.phase = .headerPending) ∧
    lenBytesOf ({ headerDue.lp with lenW := .w0 }).lenW = 0 ∧ lenBytesOf headerDue.lp.lenW ≠ 0 ∧
    ((withAnswers headerDue [0]).answer 0).getLsbD 0 = false ∧ ((withAnswers headerDue [1]).answer 0).getLsbD 0 = true := by
  decide +kernel

/-- Each clause: no room for the chunk, a streaming chunk, and a last chunk with a wrong and with a right trailer, the last at
the greatest offset that leaves room. -/
theorem witness_ChunkExpiryReadsTheNextReceiveChunk :
    (lastDue.chunkTimer.armed = true ∧ lastDue.radioState = .rxRunning ∧ lastDue.lp.dir = .rx ∧
      lastDue.lp.phase = .lastChunk) ∧
    ¬((254 : U16).toNat + lastDue.lp.remaining.toNat < 255) ∧ (253 : U16).toNat + lastDue.lp.remaining.toNat < 255 ∧
    (({ lastDue.lp with phase := .streaming }).phase = .streaming ∧ (126 : U16).toNat + 128 < 255) ∧
    (let b := whitened lastDue.lp lastDue.lp.whiteLfsr (lastDue.nextBytes 3)
     b.1.drop 1 = trailerOf lastDue.lp (crcOver lastDue.lp lastDue.lp.crcLfsr (b.1.take 1))) ∧
    (let s := withAnswers lastDue [0x1E, 0x77, 0x4D]
     let b := whitened s.lp s.lp.whiteLfsr (s.nextBytes 3)
     b.1.drop 1 ≠ trailerOf s.lp (crcOver s.lp s.lp.crcLfsr (b.1.take 1))) := by decide +kernel

theorem witness_WhiteningIsAnInvolutionFromOneSeed : ([1, 2] : List Byte).length = ([3, 4] : List Byte).length := rfl

/-- The payload of table LT, L = 300: three writes' worth. -/
def payload300 : List Byte := (List.range 300).map fun i => BitVec.ofNat 8 (7 * i + 3)

theorem witness_ALongTransmitWritesTheWholeFrame :
    let s := withAnswers rfw (payload300.map (fun b => b.setWidth 32) ++ [])
    s.initialised = true ∧ s.mp.txValid = true ∧ s.lp.enable = true ∧ (300 : U16).toNat = payload300.length ∧
    payload300.length ≤ s.lp.maxLen.toNat ∧ (s.lp.lenW = .w1 → payload300.length ≤ 255) ∧
    (s.lp.lenW = .w0 → (300 : U16) = s.lp.fixedLen) ∧
    s.env.answers = payload300.map (fun b => b.setWidth 32) ++ [] ∧ payload300.length ≤ 128 * 3 := by
  refine ⟨rfl, rfl, rfl, ?_, ?_, ?_, ?_, rfl, ?_⟩ <;> decide +kernel

/-- A long payload, and the longest the short mode delivers. -/
theorem witness_AReceiveOfAFrameDeliversItsPayload :
    let s := withAnswers rfw ((if rfw.lp.lenW = .w0 then [] else [1]) ++
      (frameBytes rfw.lp 300 payload300).map (fun b => b.setWidth 32) ++ [5, 6, 7] ++ [])
    s.initialised = true ∧ s.mp.rxValid = true ∧ s.lp.enable = true ∧ s.cbMask.getLsbD 2 = true ∧
    (300 : U16).toNat = payload300.length ∧ payload300.length ≤ s.lp.maxLen.toNat ∧
    (s.lp.lenW = .w1 → payload300.length ≤ 255) ∧ (s.lp.lenW = .w0 → (300 : U16) = s.lp.fixedLen) ∧
    s.env.answers = (if s.lp.lenW = .w0 then [] else [1]) ++
      (frameBytes s.lp 300 payload300).map (fun b => b.setWidth 32) ++ [5, 6, 7] ++ [] ∧
    0 < 3 ∧ payload300.length ≤ 128 * 3 ∧ (payload300.take 254).length ≤ 254 := by
  refine ⟨rfl, rfl, rfl, ?_, ?_, ?_, ?_, ?_, rfl, ?_, ?_, ?_⟩ <;> decide +kernel

theorem witness_BpskEncoderFollowsTheRecurrence : 7 < 8 * ([0x12] : List Byte).length := by decide

theorem witness_ByteRunsWrapAtTheEndOfTheirSpace : ([1, 2] : List Byte).length = (2 : Byte).toNat ∧ 1 < (2 : Byte).toNat := by
  decide

end Sys2Proof.Tests
end

section
/-! The configuration commands that do not abort (`40_modem_config.md` R151, R157, R158, R159): one lemma per way a command
can end, then O22 and O34 as the case splits over them. -/

namespace Sys2Proof.Machine

/-! ## The check of `Initialised` (R23) -/

/-- A command that checks `Initialised` and answers `STATUS_ERROR` runs its body or refuses. -/
theorem State.ifInit_respError (s : State) (body : State → State) :
    s.ifInit respError body = if s.initialised = true then body s else s.notInit statusError := by
  rw [respError_eq_statusError]
  split
  case isTrue h => exact s.ifInit_of_initialised h _ body
  case isFalse h => exact s.ifInit_of_not_initialised (Bool.eq_false_iff.2 h) _ body

/-! ## The kind an operand byte names (R30, R141) -/

theorem modemOf_of_le_five {b : Byte} (h : b.toNat ≤ 5) :
    modemOf b = some ([ModemKind.fsk, .lora, .msk, .bpsk, .sigfoxTx, .sigfoxRx].getD b.toNat .fsk) := by
  cases hk : modemOf b with
  | none => exact absurd (modemOf_eq_none.1 hk) (by omega)
  | some k => rw [(modemOf_eq_some hk).2]

/-- No two operand bytes name the same kind. -/
theorem modemOf_inj {b c : Byte} {k : ModemKind} (hb : modemOf b = some k) (hc : modemOf c = some k) : b = c := by
  obtain ⟨hbLe, hbk⟩ := modemOf_eq_some hb
  obtain ⟨hcLe, hck⟩ := modemOf_eq_some hc
  rw [List.getD_eq_getElem _ _ (Nat.lt_succ_of_le hbLe)] at hbk
  rw [List.getD_eq_getElem _ _ (Nat.lt_succ_of_le hcLe)] at hck
  have hnodup : [ModemKind.fsk, .lora, .msk, .bpsk, .sigfoxTx, .sigfoxRx].Nodup := by decide
  exact BitVec.eq_of_toNat_eq (hnodup.getElem_inj_iff.1 (hbk.trans hck.symm))

/-! ## SetModem, SetChannel, SetPublicNetwork -/

theorem exec_setModem_eq (m : Byte) (s : State) :
    exec (.setModem m) s = .next
      (if s.initialised = true then
        if 5 < m.toNat then s.output [.response statusUnsupported]
        else
          { s with
            mp := { s.mp with
              modem := [ModemKind.fsk, .lora, .msk, .bpsk, .sigfoxTx, .sigfoxRx].getD m.toNat .fsk }
            trace := s.trace ++ [.response statusOk] }
      else s.notInit statusError) := by
  simp only [exec, execSetModem, State.ifInit_respError, respUnsupported_eq_statusUnsupported, respOk_eq_statusOk]
  congr 2
  by_cases h : 5 < m.toNat
  · rw [if_pos h, modemOf_eq_none.2 h, State.respond_eq]
  · rw [if_neg h, modemOf_of_le_five (Nat.le_of_not_lt h)]
    rfl

theorem exec_setChannel_eq (freq : U32) (s : State) :
    exec (.setChannel freq) s = .next
      (if s.initialised = true then s.output [.ri (.setRfFrequency freq), .response statusOk]
      else s.notInit statusError) := by
  simp only [exec, execSetChannel, State.ifInit_respError, State.respond_eq, State.ri_eq, State.output_output,
    respOk_eq_statusOk, List.singleton_append]

theorem exec_setPublicNetwork_eq (enable : Bool) (s : State) :
    exec (.setPublicNetwork enable) s = .next
      (if s.initialised = true then
        let w := if enable then Config.loraSyncwordPublic else Config.loraSyncwordPrivate
        { s with
          mp := { s.mp with publicNetwork := enable }
          trace := s.trace ++ [.ri (.write Config.addrLoraSyncword (w.extractLsb' 8 8)),
            .ri (.write (Config.addrLoraSyncword + 1) (w.extractLsb' 0 8)), .response statusOk] }
      else s.notInit statusError) := by
  simp only [exec, execSetPublicNetwork, State.ifInit_respError, State.respond_eq, State.ri_eq, State.output_output,
    respOk_eq_statusOk, List.cons_append]
  rfl

/-- Settles O22: one equation per command. -/
theorem setModemSetChannelAndSetPublicNetworkResults : Obligations.SetModemSetChannelAndSetPublicNetworkResults :=
  fun s m freq enable => ⟨exec_setModem_eq m s, exec_setChannel_eq freq s, exec_setPublicNetwork_eq enable s⟩

/-! ## SetMaxPayloadLength -/

/-- A length that comes from one byte is within the range R149 supposes. -/
theorem loraPayloadLen_setWidth (b : Byte) : loraPayloadLen (b.setWidth 16) = b := by
  have hle : (b.setWidth 16).toNat ≤ 255 := by
    rw [BitVec.toNat_setWidth]
    omega
  rw [loraPayloadLen, if_pos hle, BitVec.setWidth_setWidth_of_le b (by omega), BitVec.setWidth_eq]

/-- The ways the precondition of R157 fails. -/
theorem State.maxPayloadAllowed_eq_false_iff {s : State} {k : ModemKind} :
    s.maxPayloadAllowed k = false ↔
      s.mp.modem ≠ k ∨ s.lp.enable = true ∨ (s.mp.rxValid = false ∧ s.mp.txValid = false) := by
  rw [ne_comm]
  simp only [State.maxPayloadAllowed, Bool.and_eq_false_iff, Bool.or_eq_false_iff, Bool.not_eq_false', beq_eq_false_iff_ne,
    or_assoc]

theorem State.setMaxPayload_lora (s : State) (max : Byte) :
    s.setMaxPayload .lora max =
      { s with
        mp := { s.mp with maxPayloadLen := max.setWidth 16, payloadLen := max.setWidth 16 }
        trace := s.trace ++ [.ri (.setPacketParams (.lora s.mp.preambleLen s.mp.fixLen max s.mp.crcOn s.mp.iqInverted
          s.mp.symbTimeout))] } := by
  simp [State.setMaxPayload, State.ri_eq, State.output, State.setMp, State.buildPktLora, loraPayloadLen_setWidth]

theorem State.setMaxPayload_fsk_fixed {s : State} (h : s.mp.fixLen = true) (max : Byte) :
    s.setMaxPayload .fsk max = { s with mp := { s.mp with maxPayloadLen := max.setWidth 16 } } := by
  simp [State.setMaxPayload, State.setMp, h]

/-- The record is the one of hardware packets: the command is refused in RFW mode. -/
theorem State.setMaxPayload_fsk_variable {s : State} (h : s.mp.fixLen = false) (hrfw : s.lp.enable = false)
    (max : Byte) :
    s.setMaxPayload .fsk max =
      { s with
        mp := { s.mp with maxPayloadLen := max.setWidth 16, payloadLen := max.setWidth 16 }
        trace := s.trace ++ [fskPacket s.mp (max.setWidth 16)] } := by
  simp [State.setMaxPayload, State.ri_eq, State.output, State.setMp, State.buildPktFsk, fskPacket, h, hrfw]

theorem exec_setMaxPayloadLength_eq (m max : Byte) (s : State) :
    exec (.setMaxPayloadLength m max) s = execSetMaxPayloadLength m max s := rfl

theorem execSetMaxPayloadLength_before_init {s : State} (h : s.initialised = false) (m max : Byte) :
    execSetMaxPayloadLength m max s = .next (s.notInit statusError) := by
  simp [execSetMaxPayloadLength, State.ifInit_respError, h]

theorem execSetMaxPayloadLength_unsupported {s : State} (h : s.initialised = true) {m : Byte} (h0 : m ≠ 0)
    (h1 : m ≠ 1) (max : Byte) :
    execSetMaxPayloadLength m max s = .next (s.output [.response statusUnsupported]) := by
  simp only [execSetMaxPayloadLength, State.ifInit_respError, h, if_true]
  split
  case h_1 hk => exact absurd (modemOf_inj hk rfl) h0
  case h_2 hk => exact absurd (modemOf_inj hk rfl) h1
  all_goals rw [State.respond_eq, respUnsupported_eq_statusUnsupported]

/-- For the two supported kinds: the precondition decides between the effect and `STATUS_ERROR`. -/
theorem execSetMaxPayloadLength_supported {s : State} (h : s.initialised = true) {m : Byte} (hm : m = 0 ∨ m = 1)
    (max : Byte) :
    execSetMaxPayloadLength m max s = .next
      (if s.maxPayloadAllowed (if m = 1 then .lora else .fsk) = true then
        (s.setMaxPayload (if m = 1 then .lora else .fsk) max).output [.response statusOk]
      else s.output [.response statusError]) := by
  rw [execSetMaxPayloadLength, State.ifInit_of_initialised h, ← respOk_eq_statusOk, ← respError_eq_statusError]
  obtain rfl | rfl := hm <;> rfl

/-- Settles O34, by the branches of R157 in order. -/
theorem setMaxPayloadLengthResult : Obligations.SetMaxPayloadLengthResult := by
  intro s m max
  rw [exec_setMaxPayloadLength_eq]
  by_cases hpre : s.initialised = false
  · rw [if_pos hpre, execSetMaxPayloadLength_before_init hpre]
  have hinit := Bool.eq_true_of_not_eq_false hpre
  rw [if_neg hpre]
  by_cases hm : m ≠ 0 ∧ m ≠ 1
  · rw [if_pos hm, execSetMaxPayloadLength_unsupported hinit hm.1 hm.2]
  rw [if_neg hm, execSetMaxPayloadLength_supported hinit (by tauto)]
  by_cases hbad : s.mp.modem ≠ (if m = 1 then .lora else .fsk) ∨ s.lp.enable = true ∨
      (s.mp.rxValid = false ∧ s.mp.txValid = false)
  · have hrefused := State.maxPayloadAllowed_eq_false_iff.2 hbad
    rw [if_pos hbad, if_neg (Bool.eq_false_iff.1 hrefused)]
  have hallowed := Bool.eq_true_of_not_eq_false (mt State.maxPayloadAllowed_eq_false_iff.1 hbad)
  rw [if_neg hbad, if_pos hallowed]
  by_cases hlora : m = 1
  · rw [if_pos hlora, if_pos hlora, State.setMaxPayload_lora]
    simp [State.output]
  rw [if_neg hlora, if_neg hlora]
  by_cases hfix : s.mp.fixLen = true
  · rw [if_pos hfix, State.setMaxPayload_fsk_fixed hfix]
    rfl
  · have hrfw : s.lp.enable = false := Bool.eq_false_iff.2 fun henable => hbad (.inr (.inl henable))
    rw [if_neg hfix, State.setMaxPayload_fsk_variable (Bool.eq_false_iff.2 hfix) hrfw]
    simp [State.output]

end Sys2Proof.Machine
end

section
/-! Queries, lifecycle, refused commands and `IrqProcess` (`42_txrx_commands.md` R218 to R220, R225, R242 to R246;
`41_time_on_air.md` R197, R198): one equation per command, then O19, O20, O25 and O46 from them. -/

namespace Sys2Proof.Machine

/-! ## The check of `Initialised` (R23), whatever the refusal -/

theorem State.ifInit_eq (s : State) (refusal : List Byte) (body : State → State) :
    s.ifInit refusal body = if s.initialised = true then body s else s.notInit refusal := by
  split
  case isTrue h => exact State.ifInit_of_initialised h refusal body
  case isFalse h => exact State.ifInit_of_not_initialised (Bool.eq_false_iff.2 h) refusal body

/-! ## Queries -/

theorem exec_getStatus_eq (s : State) : exec .getStatus s = .next (s.output [.response [radioCode s.radioState]]) := rfl

theorem exec_checkRfFrequency_eq (freq : U32) (s : State) :
    exec (.checkRfFrequency freq) s = .next (s.output [.response [if Config.freqSupported freq then 1 else 0]]) := by
  rw [← respBool_eq, ← State.respond_eq]
  rfl

theorem exec_getWakeupTime_eq (s : State) :
    exec .getWakeupTime s = .next (s.output [.response (u32Bytes Config.wakeupTimeMs)]) := rfl

/-- Settles O19: one equation per query; the code of R24 is read off each value of `RadioState`. -/
theorem queriesAnswerWithoutAnyEffect : Obligations.QueriesAnswerWithoutAnyEffect := by
  intro s freq
  refine ⟨?_, exec_checkRfFrequency_eq freq s, exec_getWakeupTime_eq s⟩
  rw [exec_getStatus_eq]
  cases s.radioState <;> rfl

/-! ## Standby and Sleep -/

theorem exec_standby_eq (s : State) :
    exec .standby s = .next
      (if s.initialised = true then s.aborted.output [.response statusOk] else s.notInit statusError) := by
  simp only [exec, execStandby, State.ifInit_respError, State.abort_eq, State.respond_eq, respOk_eq_statusOk]

/-- `Abort` with `SetSleep` as its operation (R219). -/
theorem State.sleep_eq (s : State) :
    ((s.stopTimers.lpTransferReset.setIrqQ []).ri (.setSleep Config.sleepParams)).setRadio .idle =
      { s.aborted with
        trace := s.trace ++ [.tmr (.stop .tx), .tmr (.stop .rx), .tmr (.stop .chunk),
          .ri (.setSleep Config.sleepParams)] } := by
  simp [State.stopTimers_eq, State.lpTransferReset_eq, State.setIrqQ, State.ri_eq, State.output, State.setRadio,
    State.aborted]

theorem exec_sleep_eq (s : State) :
    exec .sleep s = .next
      (if s.initialised = true then
        { s.aborted with
          trace := s.trace ++ [.tmr (.stop .tx), .tmr (.stop .rx), .tmr (.stop .chunk), .ri (.setSleep Config.sleepParams),
            .response statusOk] }
      else s.notInit statusError) := by
  simp only [exec, execSleep, State.ifInit_respError, State.sleep_eq, State.respond_eq, respOk_eq_statusOk, State.output,
    List.append_assoc, List.cons_append, List.nil_append]

/-- Settles O20: one equation per command. -/
theorem standbyAbortsAndSleepAbortsWithSetSleep : Obligations.StandbyAbortsAndSleepAbortsWithSetSleep :=
  fun s => ⟨exec_standby_eq s, exec_sleep_eq s⟩

/-! ## The commands the block refuses -/

theorem State.refuseUnsupported_eq (s : State) :
    (s.ifInit respError fun s => s.respond respUnsupported) =
      if s.initialised = true then s.output [.response statusUnsupported] else s.notInit statusError := by
  simp only [State.ifInit_respError, State.respond_eq, respUnsupported_eq_statusUnsupported]

theorem exec_lrFhssGetTimeOnAirInMs_eq (n : Byte) (cfg : List Byte) (s : State) :
    exec (.lrFhssGetTimeOnAirInMs n cfg) s = .next
      (if s.initialised = true then s.output [.response [0, 0, 0, 0]] else s.notInit [0, 0, 0, 0]) := by
  have hzero : u32Bytes 0 = [0, 0, 0, 0] := by decide
  simp only [exec, execLrFhssGetTimeOnAirInMs, State.ifInit_eq, State.respond_eq, hzero]

/-- Settles O25: the first four commands are the same refusal. -/
theorem refusedCommandsAnswerAndDoNothing : Obligations.RefusedCommandsAnswerAndDoNothing := by
  intro s a b p n cfg
  refine ⟨fun i hi => ?_, exec_lrFhssGetTimeOnAirInMs_eq n cfg s⟩
  rw [← State.refuseUnsupported_eq]
  simp only [List.mem_cons, List.not_mem_nil, or_false] at hi
  obtain rfl | rfl | rfl | rfl := hi <;> rfl

/-! ## IrqProcess -/

/-- The row of a queued event is its dispatch (R353). -/
theorem exec_instrOfEvent (e : IrqEvent) (s : State) : exec (instrOfEvent e) s = .next (s.dispatchEvent e) := by
  cases e <;> rfl

theorem State.dispatchNext_of_nil {s : State} (h : s.irqQ = []) : s.dispatchNext = s := by
  simp [State.dispatchNext, h]

theorem State.dispatchNext_of_cons {s : State} {e : IrqEvent} {q : List IrqEvent} (h : s.irqQ = e :: q) :
    s.dispatchNext = (s.setIrqQ q).dispatchEvent e := by
  simp [State.dispatchNext, h]

theorem exec_irqProcess_eq (s : State) :
    exec .irqProcess s = .next
      (if s.initialised = true then s.dispatchNext.output [.response statusOk] else s.notInit statusError) := by
  simp only [exec, execIrqProcess, State.ifInit_respError, State.respond_eq, respOk_eq_statusOk]

/-- Settles O46, by what is at the head of the queue. -/
theorem irqProcessDispatchesTheHeadOfTheQueue : Obligations.IrqProcessDispatchesTheHeadOfTheQueue := by
  intro s
  rw [exec_irqProcess_eq]
  refine ⟨fun hnot => ?refused, fun hinit hempty => ?empty, fun e q hinit hhead => ?head⟩
  case refused => rw [if_neg (Bool.eq_false_iff.1 hnot)]
  case empty => rw [if_pos hinit, State.dispatchNext_of_nil hempty]
  case head =>
    refine ⟨(s.setIrqQ q).dispatchEvent e, exec_instrOfEvent e (s.setIrqQ q), ?_⟩
    rw [if_pos hinit, State.dispatchNext_of_cons hhead]

end Sys2Proof.Machine
end

section
/-! Exceptions (`60_exceptions.md` R352, R356 to R360, R365, R366): what queueing a list of events does, and one equation
per way an event or an expiry ends the running operation; then O13, O47 and O48 from them. -/

namespace Sys2Proof.Machine

/-! ## The IRQ raise step (R352) -/

/-- The events of a vector are the priority list with the events of clear bits left out. -/
theorem vectorEvents_eq_priorityEvents (w : U16) : vectorEvents w = priorityEvents w := by
  have heventIf (e : IrqEvent) :
      eventIf (w.getLsbD (eventBit e)) e = [e].filter fun e => w.getLsbD (eventBit e) := by
    rw [eventIf, List.filter_singleton, Bool.cond_eq_ite]
  calc vectorEvents w
      = [IrqEvent.crcError, .headerError, .timeout, .txDone, .rxDone, .cadDone (w.getLsbD 8), .syncWordValid,
          .preambleDetected, .headerValid, .lrFhssHop].flatMap fun e => eventIf (w.getLsbD (eventBit e)) e := by
        simp only [vectorEvents, List.flatMap_cons, List.flatMap_nil, List.append_nil, List.append_assoc, eventBit]
    _ = priorityEvents w := by
        simp only [heventIf, ← List.filter_flatMap, List.flatMap_singleton', priorityEvents]

theorem State.pushEvent_of_room {s : State} (h : s.irqQ.length < 4) (e : IrqEvent) :
    s.pushEvent e = { s with irqQ := s.irqQ ++ [e] } := if_pos h

theorem State.pushEvent_of_full {s : State} (h : s.irqQ.length = 4) (e : IrqEvent) :
    s.pushEvent e = s.raiseFault .irqOverrun := if_neg (show ¬ s.irqQ.length < 4 by omega)

/-- A full queue discards every event; `IrqOverrun` is sticky, so it is raised once. -/
theorem State.foldl_pushEvent_of_full {s : State} (h : s.irqQ.length = 4) (es : List IrqEvent) :
    es.foldl State.pushEvent s = { s with fault := s.fault ||| if es = [] then 0 else 0x4 } := by
  induction es generalizing s with
  | nil => simp
  | cons e es ih =>
    rw [List.foldl_cons, State.pushEvent_of_full h, ih (s := s.raiseFault .irqOverrun) h]
    by_cases hes : es = [] <;> simp [hes, State.raiseFault, faultMask, BitVec.or_assoc]

/-- Events are queued while there is room; the queue overruns exactly when one does not fit. -/
theorem State.foldl_pushEvent_eq {s : State} (h : s.irqQ.length ≤ 4) (es : List IrqEvent) :
    es.foldl State.pushEvent s =
      { s with
        irqQ := s.irqQ ++ es.take (4 - s.irqQ.length)
        fault := s.fault ||| if 4 < s.irqQ.length + es.length then 0x4 else 0 } := by
  induction es generalizing s with
  | nil => simp [Nat.not_lt.2 h]
  | cons e es ih =>
    obtain hroom | hfull := Nat.lt_or_eq_of_le h
    · have htake : 4 - s.irqQ.length = 4 - (s.irqQ ++ [e]).length + 1 := by
        rw [List.length_append, List.length_singleton]
        omega
      have hlen : s.irqQ.length + (e :: es).length = (s.irqQ ++ [e]).length + es.length := by
        simp only [List.length_append, List.length_cons, List.length_nil]
        omega
      rw [List.foldl_cons, State.pushEvent_of_room hroom, ih (by simpa using hroom), htake, hlen, List.take_succ_cons]
      simp only [List.append_assoc, List.singleton_append]
    · rw [State.foldl_pushEvent_of_full hfull]
      simp [hfull]

/-- Reserved bits raise `BadEvent` and nothing else. -/
theorem State.raiseBadEvent_eq (s : State) (v : U16) :
    (if v &&& reservedIrqBits = 0 then s else s.raiseFault .badEvent) =
      { s with fault := s.fault ||| if v &&& 0xBC00 = 0 then 0 else 0x8 } := by
  change (if v &&& 0xBC00 = 0 then s else s.raiseFault .badEvent) = _
  split
  · simp
  · rfl

/-- `BadEvent` is raised before the events are queued; the bits of `Fault` only gather. -/
theorem State.raiseIrq_eq {s : State} (h : s.irqQ.length ≤ 4) (v : U16) :
    s.raiseIrq v =
      (let es := priorityEvents (v &&& s.irqMaskShadow &&& 0x43FF)
       { s with
         irqQ := s.irqQ ++ es.take (4 - s.irqQ.length)
         fault := s.fault ||| (if v &&& 0xBC00 = 0 then 0 else 0x8) |||
           (if 4 < s.irqQ.length + es.length then 0x4 else 0) }) := by
  rw [State.raiseIrq, State.raiseBadEvent_eq, vectorEvents_eq_priorityEvents]
  exact State.foldl_pushEvent_eq (s := { s with fault := s.fault ||| if v &&& 0xBC00 = 0 then 0 else 0x8 }) h _

theorem step_of_irq {s : State} {v : U16} {rest : List Input} (h : s.env.inputs = .irq v :: rest) :
    step s = .next (State.raiseIrq { s with env := { s.env with inputs := rest } } v) := by
  simp only [step, State.takeInput, h, State.stepInput]

/-- Settles O13: the raise step, on the state with the vector taken from the environment. -/
theorem raiseStepQueuesEnabledEventsInPriorityOrder : Obligations.RaiseStepQueuesEnabledEventsInPriorityOrder := by
  intro s rest v hlen hinputs
  have hraise := State.raiseIrq_eq (s := { s with env := { s.env with inputs := rest } }) hlen v
  exact (step_of_irq hinputs).trans (congrArg Host.Outcome.next hraise)

/-! ## The ends of an operation -/

theorem State.txTimeoutPath_eq (s : State) : s.txTimeoutPath = s.transmitEnded 1 .txTimeout :=
  s.endTx_eq .txTimeout 1 rfl

theorem State.txDonePath_eq (s : State) : s.txDonePath = s.transmitEnded 0 .txDone := s.endTx_eq .txDone 0 rfl

theorem State.rxErrorPath_eq (s : State) :
    s.rxErrorPath =
      { s with
        radioState := .idle
        rxTimer := ⟨false, s.rxTimer.value⟩
        trace := s.trace ++ [.tmr (.stop .rx), standbyOutput] ++ s.supplied 4 .rxError } := by
  rw [State.rxErrorPath, State.callback_eq _ _ 4 rfl]
  simp [State.output, State.supplied, State.tmrStop, State.setTimer, State.timer, State.emit, State.standby, State.ri,
    State.setRadio, standbyOutput]

theorem State.cadDonePath_eq (s : State) (detected : Bool) :
    s.cadDonePath detected =
      { s with
        radioState := .idle
        trace := s.trace ++ [standbyOutput] ++ s.supplied 6 (.cadDone detected) } := by
  rw [State.cadDonePath, State.callback_eq _ _ 6 rfl]
  rfl

/-- An expiry has disarmed the timer the path stops. -/
theorem State.transmitEnded_tmrExpired (s : State) (b : Nat) (c : Callback) :
    (s.tmrExpired .tx).transmitEnded b c = s.transmitEnded b c := rfl

theorem State.receiveEnded_tmrExpired (s : State) (b : Nat) (c : Callback) :
    (s.tmrExpired .rx).receiveEnded b c = s.receiveEnded b c := rfl

/-! ## Timeouts: the event and the timer -/

theorem exec_irqTimeout_of_txRunning {s : State} (h : s.radioState = .txRunning) :
    exec .irqTimeout s = .next (s.transmitEnded 1 .txTimeout) := by
  refine (exec_instrOfEvent .timeout s).trans ?_
  rw [State.dispatchEvent, State.dispatchTimeout, h, State.txTimeoutPath_eq]

theorem exec_irqTimeout_of_rxRunning {s : State} (h : s.radioState = .rxRunning) :
    exec .irqTimeout s = .next (s.receiveEnded 3 .rxTimeout) := by
  refine (exec_instrOfEvent .timeout s).trans ?_
  rw [State.dispatchEvent, State.dispatchTimeout, h, State.rxTimeoutPath_eq]

theorem exec_expireTxTimer_of_txRunning {s : State} (h : s.radioState = .txRunning) (harmed : s.txTimer.armed = true) :
    exec .expireTxTimer s = .next (s.transmitEnded 1 .txTimeout) := by
  have hstate : (s.tmrExpired .tx).radioState = .txRunning := h
  simp only [exec, execExpireTxTimer, harmed, if_true, State.txTimerExpiry, hstate, State.txTimeoutPath_eq,
    State.transmitEnded_tmrExpired]

theorem exec_expireRxTimer_of_rxRunning {s : State} (h : s.radioState = .rxRunning) (harmed : s.rxTimer.armed = true) :
    exec .expireRxTimer s = .next (s.receiveEnded 3 .rxTimeout) := by
  have hstate : (s.tmrExpired .rx).radioState = .rxRunning := h
  simp only [exec, execExpireRxTimer, harmed, if_true, State.rxTimerExpiry, hstate, State.rxTimeoutPath_eq,
    State.receiveEnded_tmrExpired]

/-! ## Completion and error events -/

theorem exec_irqTxDone_of_txRunning {s : State} (h : s.radioState = .txRunning) :
    exec .irqTxDone s = .next (s.transmitEnded 0 .txDone) := by
  refine (exec_instrOfEvent .txDone s).trans ?_
  rw [State.dispatchEvent, State.dispatchTxDone, if_pos h, State.txDonePath_eq]

theorem State.dispatchRxError_of_rxRunning {s : State} (h : s.radioState = .rxRunning) (hdir : s.lp.dir = .none) :
    s.dispatchRxError = s.rxErrorPath := if_pos ⟨h, hdir⟩

theorem exec_irqCadDone_of_cad {s : State} (h : s.radioState = .cad) (detected : Bool) :
    exec (.irqCadDone detected) s = .next
      { s with
        radioState := .idle
        trace := s.trace ++ [standbyOutput] ++ s.supplied 6 (.cadDone detected) } := by
  refine (exec_instrOfEvent (.cadDone detected) s).trans ?_
  rw [State.dispatchEvent, State.dispatchCadDone, if_pos h, State.cadDonePath_eq]

/-- Settles O47: one equation per cause. -/
theorem txDoneAndTimeoutEndATransmission : Obligations.TxDoneAndTimeoutEndATransmission :=
  fun _ h => ⟨exec_irqTxDone_of_txRunning h, exec_irqTimeout_of_txRunning h, exec_expireTxTimer_of_txRunning h⟩

/-- Settles O48: one equation per cause; the two receive errors are the same dispatch. -/
theorem timeoutsErrorsAndCadDoneEndTheirOperation : Obligations.TimeoutsErrorsAndCadDoneEndTheirOperation := by
  intro s detected
  refine ⟨fun h => ⟨exec_irqTimeout_of_rxRunning h, exec_expireRxTimer_of_rxRunning h, fun hdir i hi => ?_⟩,
    fun h => exec_irqCadDone_of_cad h detected⟩
  rw [← State.rxErrorPath_eq, ← State.dispatchRxError_of_rxRunning h hdir]
  simp only [List.mem_cons, List.not_mem_nil, or_false] at hi
  obtain rfl | rfl := hi
  · exact exec_instrOfEvent .crcError s
  · exact exec_instrOfEvent .headerError s

end Sys2Proof.Machine
end

section
/-! Decoding and encoding (`30_encoding.md` R100 to R108, `60_exceptions.md` R351): each reader takes exactly the bytes of its
writer, so a packet decodes exactly if it is the encoding of a well-formed instruction; then O14, O15 and O16. -/

namespace Sys2Proof

/-! ## Readers and writers -/

/-- A reader takes exactly the bytes its writer gives. -/
def Reads {α : Type} (read : List Byte → Except DecodeError (α × List Byte)) (write : α → List Byte) : Prop :=
  ∀ bs a rest, read bs = .ok (a, rest) ↔ bs = write a ++ rest

theorem except_bind_eq_ok {ε α β : Type} (x : Except ε α) (f : α → Except ε β) (b : β) :
    (x >>= f) = .ok b ↔ ∃ a, x = .ok a ∧ f a = .ok b := by
  cases x <;> simp [bind, Except.bind]

/-- A read followed by more decoding succeeds exactly on the bytes of a value followed by bytes the rest accepts. -/
theorem Reads.bind {α β : Type} {read : List Byte → Except DecodeError (α × List Byte)} {write : α → List Byte}
    (h : Reads read write) (bs : List Byte) (f : α × List Byte → Except DecodeError β) (b : β) :
    (read bs >>= f) = .ok b ↔ ∃ a rest, bs = write a ++ rest ∧ f (a, rest) = .ok b := by
  rw [except_bind_eq_ok, Prod.exists]
  simp only [h bs]

theorem reads_u8 : Reads readU8 fun b => [b] := by
  intro bs a rest
  cases bs <;> simp [readU8]

theorem append_extractLsb'_u16 (v : U16) : v.extractLsb' 8 8 ++ v.extractLsb' 0 8 = v := by
  rw [BitVec.extractLsb'_append_extractLsb'_eq_extractLsb' (x := v) (by rfl : 8 = 0 + 8)]
  exact BitVec.extractLsb'_eq_self

theorem append_extractLsb'_u32 (v : U32) :
    v.extractLsb' 24 8 ++ v.extractLsb' 16 8 ++ v.extractLsb' 8 8 ++ v.extractLsb' 0 8 = v := by
  rw [BitVec.extractLsb'_append_extractLsb'_eq_extractLsb' (x := v) (by rfl : 24 = 16 + 8),
    BitVec.extractLsb'_append_extractLsb'_eq_extractLsb' (x := v) (by rfl : 16 = 8 + 8),
    BitVec.extractLsb'_append_extractLsb'_eq_extractLsb' (x := v) (by rfl : 8 = 0 + 8)]
  exact BitVec.extractLsb'_eq_self

theorem u16Bytes_append (b1 b0 : Byte) : u16Bytes (b1 ++ b0) = [b0, b1] := by
  rw [u16Bytes, BitVec.extractLsb'_append_eq_left, BitVec.extractLsb'_append_eq_right]

theorem u32Bytes_append (b3 b2 b1 b0 : Byte) : u32Bytes (b3 ++ b2 ++ b1 ++ b0) = [b0, b1, b2, b3] := by
  have h0 : (b3 ++ b2 ++ b1 ++ b0).extractLsb' 0 8 = b0 := BitVec.extractLsb'_append_eq_right
  have h1 : (b3 ++ b2 ++ b1 ++ b0).extractLsb' 8 8 = b1 := by
    rw [BitVec.extractLsb'_append_eq_of_le (Nat.le_refl 8)]
    exact BitVec.extractLsb'_append_eq_right
  have h2 : (b3 ++ b2 ++ b1 ++ b0).extractLsb' 16 8 = b2 := by
    rw [BitVec.extractLsb'_append_eq_of_le (by decide), BitVec.extractLsb'_append_eq_of_le (by decide)]
    exact BitVec.extractLsb'_append_eq_right
  have h3 : (b3 ++ b2 ++ b1 ++ b0).extractLsb' 24 8 = b3 := by
    rw [BitVec.extractLsb'_append_eq_of_le (by decide), BitVec.extractLsb'_append_eq_of_le (by decide)]
    exact BitVec.extractLsb'_append_eq_left
  rw [u32Bytes, h0, h1, h2, h3]

theorem reads_u16 : Reads readU16 u16Bytes := by
  intro bs v rest
  constructor
  · intro h
    unfold readU16 at h
    split at h
    · cases h
      rw [u16Bytes_append]; rfl
    · cases h
  · rintro rfl
    exact congrArg (fun v => Except.ok (v, rest)) (append_extractLsb'_u16 v)

theorem reads_u32 : Reads readU32 u32Bytes := by
  intro bs v rest
  constructor
  · intro h
    unfold readU32 at h
    split at h
    · cases h
      rw [u32Bytes_append]; rfl
    · cases h
  · rintro rfl
    exact congrArg (fun v => Except.ok (v, rest)) (append_extractLsb'_u32 v)

theorem reads_bool : Reads readBool fun b => [boolByte b] := by
  intro bs v rest
  cases bs with
  | nil => simp [readBool]
  | cons b r =>
    by_cases h0 : b = 0
    · subst h0; cases v <;> simp [readBool, boolByte]
    by_cases h1 : b = 1
    · subst h1; cases v <;> simp [readBool, boolByte]
    · have hb (v : Bool) : b ≠ boolByte v := by cases v <;> assumption
      rw [readBool, if_neg h0, if_neg h1]
      simp [hb]

theorem reads_bytes8 : Reads readBytes8 bytes8 := by
  intro bs v rest
  constructor
  · intro h
    unfold readBytes8 at h
    split at h <;> cases h
    rfl
  · rintro rfl
    rfl

/-- A tail of `n` bytes (R100). -/
theorem readBytes_eq_ok {n : Byte} {bs d rest : List Byte} :
    readBytes n bs = .ok (d, rest) ↔ d.length = n.toNat ∧ bs = d ++ rest := by
  unfold readBytes
  split
  case isTrue h =>
    simp only [reduceCtorEq, false_iff, not_and]
    rintro hd rfl
    simp at h; omega
  case isFalse h =>
    constructor
    · intro h'
      cases h'
      exact ⟨by rw [List.length_take]; omega, (List.take_append_drop _ _).symm⟩
    · rintro ⟨hd, rfl⟩
      simp [← hd]

theorem readBytes_bind {β : Type} (n : Byte) (bs : List Byte) (f : List Byte × List Byte → Except DecodeError β)
    (b : β) :
    (readBytes n bs >>= f) = .ok b ↔ ∃ d rest, (d.length = n.toNat ∧ bs = d ++ rest) ∧ f (d, rest) = .ok b := by
  rw [except_bind_eq_ok, Prod.exists]
  simp only [readBytes_eq_ok]

theorem finish_eq_ok {i j : Instr} {bs : List Byte} : finish i bs = .ok j ↔ bs = [] ∧ i = j := by
  cases bs <;> simp [finish]

/-! ## The records -/

theorem reads_gcfg : Reads readGcfg gcfgBytes := by
  intro bs g rest
  unfold readGcfg
  simp only [reads_u8.bind, reads_u16.bind, reads_u32.bind, reads_bytes8.bind, Except.ok.injEq, Prod.mk.injEq]
  constructor
  · rintro ⟨_, _, rfl, _, _, rfl, _, _, rfl, _, _, rfl, _, _, rfl, _, _, rfl, _, _, rfl, _, _, rfl, _, _, rfl, _, _, rfl,
      _, _, rfl, _, _, rfl, _, _, rfl, _, _, rfl, rfl, rfl⟩
    simp [gcfgBytes]
  · rintro rfl
    exact ⟨_, _, rfl, g.bitrate, _, rfl, g.fdev, _, rfl, g.bandwidth, _, rfl, g.preambleLen, _, rfl, _, _, rfl,
      g.syncWord, _, rfl, _, _, rfl, g.maxPayloadLen, _, rfl, _, _, rfl, g.crcPoly, _, rfl, g.crcSeed, _, rfl, _, _, rfl,
      g.whiteSeed, _, rfl, rfl, rfl⟩

theorem reads_rxConfig : Reads readRxConfig rxConfigBytes := by
  intro bs c rest
  unfold readRxConfig
  simp only [reads_u8.bind, reads_u16.bind, reads_u32.bind, reads_bool.bind, Except.ok.injEq, Prod.mk.injEq]
  constructor
  · rintro ⟨_, _, rfl, _, _, rfl, _, _, rfl, _, _, rfl, _, _, rfl, _, _, rfl, _, _, rfl, _, _, rfl, _, _, rfl, _, _, rfl,
      _, _, rfl, _, _, rfl, _, _, rfl, _, _, rfl, rfl, rfl⟩
    simp [rxConfigBytes]
  · rintro rfl
    exact ⟨_, _, rfl, c.bandwidth, _, rfl, c.datarate, _, rfl, _, _, rfl, c.bandwidthAfc, _, rfl, c.preambleLen, _, rfl,
      c.symbTimeout, _, rfl, c.fixLen, _, rfl, _, _, rfl, c.crcOn, _, rfl, c.freqHopOn, _, rfl, _, _, rfl, c.iqInverted, _,
      rfl, c.rxContinuous, _, rfl, rfl, rfl⟩

theorem reads_txConfig : Reads readTxConfig txConfigBytes := by
  intro bs c rest
  unfold readTxConfig
  simp only [reads_u8.bind, reads_u16.bind, reads_u32.bind, reads_bool.bind, Except.ok.injEq, Prod.mk.injEq]
  constructor
  · rintro ⟨_, _, rfl, _, _, rfl, _, _, rfl, _, _, rfl, _, _, rfl, _, _, rfl, _, _, rfl, _, _, rfl, _, _, rfl, _, _, rfl,
      _, _, rfl, _, _, rfl, _, _, rfl, rfl, rfl⟩
    simp [txConfigBytes]
  · rintro rfl
    exact ⟨_, _, rfl, _, _, rfl, c.fdev, _, rfl, c.bandwidth, _, rfl, c.datarate, _, rfl, _, _, rfl, c.preambleLen, _, rfl,
      c.fixLen, _, rfl, c.crcOn, _, rfl, c.freqHopOn, _, rfl, _, _, rfl, c.iqInverted, _, rfl, c.timeout, _, rfl, rfl, rfl⟩

theorem reads_airParams : Reads readAirParams airParamsBytes := by
  intro bs a rest
  unfold readAirParams
  simp only [reads_u8.bind, reads_u16.bind, reads_u32.bind, reads_bool.bind, Except.ok.injEq, Prod.mk.injEq]
  constructor
  · rintro ⟨_, _, rfl, _, _, rfl, _, _, rfl, _, _, rfl, _, _, rfl, _, _, rfl, _, _, rfl, _, _, rfl, rfl, rfl⟩
    simp [airParamsBytes]
  · rintro rfl
    exact ⟨_, _, rfl, a.bandwidth, _, rfl, a.datarate, _, rfl, _, _, rfl, a.preambleLen, _, rfl, a.fixLen, _, rfl,
      _, _, rfl, a.crcOn, _, rfl, rfl, rfl⟩

/-! ## Packets -/

theorem eq_ofNat_of_toNat_eq {b : Byte} {n : Nat} (h : b.toNat = n) : b = BitVec.ofNat 8 n := by
  rw [← h, BitVec.ofNat_toNat, BitVec.setWidth_eq]

/-- Operands that decode are those of a well-formed instruction of that opcode. The cases are grouped by the number of
operands, with those that end in a tail of bytes apart. -/
theorem encode_of_decodeOperands {op : Byte} {bs : List Byte} {i : Instr} (h : decodeOperands op bs = .ok i) :
    i.wellFormed = true ∧ encode i = .command (op :: bs) := by
  unfold decodeOperands at h
  split at h
  case h_36 => cases h
  all_goals
    rename_i hop
    obtain rfl := eq_ofNat_of_toNat_eq hop
    simp only [reads_u8.bind, reads_u16.bind, reads_u32.bind, reads_bool.bind, reads_gcfg.bind, reads_rxConfig.bind,
      reads_txConfig.bind, reads_airParams.bind, readBytes_bind, finish_eq_ok] at h
  case h_1 =>
    obtain ⟨m, rest, rfl, h⟩ := h
    split at h
    case isTrue hm =>
      obtain ⟨rfl, rfl⟩ := finish_eq_ok.1 h
      exact ⟨hm, rfl⟩
    case isFalse => cases h
  case h_2 | h_6 | h_12 | h_13 | h_16 | h_25 | h_26 | h_28 =>
    obtain ⟨rfl, rfl⟩ := h
    exact ⟨rfl, rfl⟩
  case h_3 | h_4 | h_7 | h_8 | h_9 | h_10 | h_14 | h_15 | h_18 | h_20 | h_24 | h_29 =>
    obtain ⟨a, _, rfl, rfl, rfl⟩ := h
    simp [Instr.wellFormed, encode]
  case h_19 | h_22 | h_23 | h_27 =>
    obtain ⟨a, _, rfl, b, _, rfl, rfl, rfl⟩ := h
    simp [Instr.wellFormed, encode]
  case h_17 | h_30 | h_31 | h_32 | h_33 =>
    obtain ⟨a, _, rfl, b, _, rfl, c, _, rfl, rfl, rfl⟩ := h
    simp [Instr.wellFormed, encode]
  case h_5 =>
    obtain ⟨a, _, rfl, b, _, rfl, c, _, rfl, d, _, rfl, rfl, rfl⟩ := h
    simp [Instr.wellFormed, encode]
  case h_11 | h_34 | h_35 =>
    obtain ⟨n, _, rfl, d, _, ⟨hd, rfl⟩, rfl, rfl⟩ := h
    simp [Instr.wellFormed, tailOk, hd, encode]
  case h_21 =>
    obtain ⟨a, _, rfl, n, _, rfl, d, _, ⟨hd, rfl⟩, rfl, rfl⟩ := h
    simp [Instr.wellFormed, tailOk, hd, encode]

/-- The encoding of a well-formed command decodes to it. -/
theorem decodeOperands_of_encode {op : Byte} {bs : List Byte} {i : Instr} (hw : i.wellFormed = true)
    (h : encode i = .command (op :: bs)) : decodeOperands op bs = .ok i := by
  cases i <;> simp only [encode, Input.command.injEq, List.cons.injEq, reduceCtorEq] at h
  all_goals
    obtain ⟨rfl, rfl⟩ := h
    simp only [decodeOperands, BitVec.ofNat_eq_ofNat, BitVec.reduceToNat, reads_u8.bind, reads_u16.bind,
      reads_u32.bind, reads_bool.bind, reads_gcfg.bind, reads_rxConfig.bind, reads_txConfig.bind, reads_airParams.bind,
      readBytes_bind, finish_eq_ok]
  case init m => exact ⟨m, _, rfl, by rw [if_pos (show cbMaskOk m = true from hw)]; rfl⟩
  case send | lrFhssSetCfg | lrFhssGetTimeOnAirInMs | writeRegisters =>
    simpa [Instr.wellFormed, tailOk] using hw
  case isChannelFree a b c d => exact ⟨a, _, rfl, b, _, rfl, c, _, rfl, d, _, rfl, rfl, rfl⟩
  case setTxContinuousWave a b c | transmitLongPacket a b c | receiveLongPacket a b c =>
    exact ⟨a, _, rfl, b, _, rfl, c, _, rfl, rfl, rfl⟩
  case setRxGenericConfig a b c | setTxGenericConfig a b c =>
    exact ⟨a, _, List.append_assoc _ _ _, b, _, rfl, c, _, (List.append_nil _).symm, rfl, rfl⟩
  case write a b | readRegisters a b | setMaxPayloadLength a b | setRxDutyCycle a b =>
    exact ⟨a, _, rfl, b, _, rfl, rfl, rfl⟩
  case setModem a | setChannel a | setRxConfig a | setTxConfig a | checkRfFrequency a | timeOnAir a | rx a | rxBoosted a |
    rssi a | read a | setPublicNetwork a | txCw a =>
    exact ⟨a, _, by simp, rfl, rfl⟩
  case getStatus | random | sleep | standby | startCad | getWakeupTime | irqProcess | txPrbs => exact ⟨trivial, trivial⟩

/-- A packet decodes to an instruction exactly if it is the encoding of it and the instruction is well formed. -/
theorem decodeCommand_eq_ok_iff {p : List Byte} {i : Instr} :
    decodeCommand p = .ok i ↔ i.wellFormed = true ∧ encode i = .command p := by
  cases p with
  | nil =>
    simp only [decodeCommand, reduceCtorEq, false_iff, not_and]
    intro _ h
    cases i <;> simp [encode] at h
  | cons op bs => exact ⟨encode_of_decodeOperands, fun h => decodeOperands_of_encode h.1 h.2⟩

/-! ## Vectors and line codes -/

/-- A pattern of reserved bits sets no event's bit. -/
theorem getLsbD_of_reservedOk {bits : U16} (h : reservedOk bits = true) {k : Nat} (hk : k < 16)
    (hr : reservedIrqBits.getLsbD k = false) : bits.getLsbD k = false := by
  simp only [reservedOk, Bool.and_eq_true, beq_iff_eq] at h
  have hbit := congrArg (BitVec.getLsbD · k) h.2
  simp only [BitVec.getLsbD_and, BitVec.getLsbD_not, hr, hk, decide_true, Bool.not_false, Bool.and_true] at hbit
  exact hbit.trans BitVec.getLsbD_zero

theorem vectorEvents_of_reservedOk {bits : U16} (h : reservedOk bits = true) : vectorEvents bits = [] := by
  have hbit (k : Nat) (hk : k < 16 ∧ reservedIrqBits.getLsbD k = false) := getLsbD_of_reservedOk h hk.1 hk.2
  simp only [vectorEvents, hbit 0 (by decide), hbit 1 (by decide), hbit 2 (by decide), hbit 3 (by decide),
    hbit 4 (by decide), hbit 5 (by decide), hbit 6 (by decide), hbit 7 (by decide), hbit 9 (by decide),
    hbit 14 (by decide)]
  rfl

theorem and_reservedIrqBits_of_reservedOk {bits : U16} (h : reservedOk bits = true) : bits &&& reservedIrqBits = bits := by
  simp only [reservedOk, Bool.and_eq_true, beq_iff_eq] at h
  calc bits &&& reservedIrqBits
      = (bits &&& reservedIrqBits) ||| (bits &&& ~~~reservedIrqBits) := by rw [h.2]; simp
    _ = bits := by
        rw [← BitVec.and_or_distrib_left, show reservedIrqBits ||| ~~~reservedIrqBits = BitVec.allOnes 16 by decide,
          BitVec.and_allOnes]

theorem decodeVector_of_reservedOk {bits : U16} (h : reservedOk bits = true) :
    decodeVector bits = [.irqReserved bits] := by
  have hne : bits ≠ 0 := by
    simp only [reservedOk, Bool.and_eq_true, bne_iff_ne] at h
    exact h.1
  rw [decodeVector, and_reservedIrqBits_of_reservedOk h, if_neg hne, vectorEvents_of_reservedOk h, List.map_nil]

/-- Settles O14: a command by the readers and writers, an event or a line code by its bits. -/
theorem decodeOfEncodeIsTheInstruction : Obligations.DecodeOfEncodeIsTheInstruction := by
  intro i hw
  cases hi : encode i with
  | command p => rw [decodeInput, decodeCommand_eq_ok_iff.2 ⟨hw, hi⟩]; rfl
  | dispatch => cases i <;> cases hi
  | timer l => cases i <;> cases hi <;> rfl
  | irq v =>
    cases i <;> simp only [encode, reduceCtorEq, Input.irq.injEq] at hi
    all_goals subst hi
    case irqReserved => exact congrArg Except.ok (decodeVector_of_reservedOk hw)
    case irqCadDone detected => cases detected <;> rfl
    all_goals rfl

/-- Every well-formed command has the length of its opcode's row (R100). -/
theorem encode_length (i : Instr) : Laws.EncodingLength.Statement i := by
  open Laws in
  cases i with
  | init a => exact EncodingLength.init a
  | getStatus => exact EncodingLength.getStatus
  | setModem a => exact EncodingLength.setModem a
  | setChannel a => exact EncodingLength.setChannel a
  | isChannelFree a b c d => exact EncodingLength.isChannelFree a b c d
  | random => exact EncodingLength.random
  | setRxConfig a => exact EncodingLength.setRxConfig a
  | setTxConfig a => exact EncodingLength.setTxConfig a
  | checkRfFrequency a => exact EncodingLength.checkRfFrequency a
  | timeOnAir a => exact EncodingLength.timeOnAir a
  | send a b => exact EncodingLength.send a b
  | sleep => exact EncodingLength.sleep
  | standby => exact EncodingLength.standby
  | rx a => exact EncodingLength.rx a
  | rxBoosted a => exact EncodingLength.rxBoosted a
  | startCad => exact EncodingLength.startCad
  | setTxContinuousWave a b c => exact EncodingLength.setTxContinuousWave a b c
  | rssi a => exact EncodingLength.rssi a
  | write a b => exact EncodingLength.write a b
  | read a => exact EncodingLength.read a
  | writeRegisters a b c => exact EncodingLength.writeRegisters a b c
  | readRegisters a b => exact EncodingLength.readRegisters a b
  | setMaxPayloadLength a b => exact EncodingLength.setMaxPayloadLength a b
  | setPublicNetwork a => exact EncodingLength.setPublicNetwork a
  | getWakeupTime => exact EncodingLength.getWakeupTime
  | irqProcess => exact EncodingLength.irqProcess
  | setRxDutyCycle a b =>
    exact EncodingLength.setRxDutyCycle a b
  | txPrbs => exact EncodingLength.txPrbs
  | txCw a => exact EncodingLength.txCw a
  | setRxGenericConfig a b c => exact EncodingLength.setRxGenericConfig a b c
  | setTxGenericConfig a b c => exact EncodingLength.setTxGenericConfig a b c
  | transmitLongPacket a b c => exact EncodingLength.transmitLongPacket a b c
  | receiveLongPacket a b c =>
    exact EncodingLength.receiveLongPacket a b c
  | lrFhssSetCfg a b => exact EncodingLength.lrFhssSetCfg a b
  | lrFhssGetTimeOnAirInMs a b => exact EncodingLength.lrFhssGetTimeOnAirInMs a b
  | _ => exact fun _ _ h => nomatch h

/-- Settles O15: what decodes is an encoding, and encodings have the length of their row. -/
theorem aDecodedPacketIsTheEncodingOfItsInstruction : Obligations.ADecodedPacketIsTheEncodingOfItsInstruction := by
  intro p i h
  obtain ⟨hw, he⟩ := decodeCommand_eq_ok_iff.1 h
  exact ⟨hw, he, encode_length i hw p he⟩

/-- Settles O16, by evaluation. -/
theorem writtenOutInputsDecode : Obligations.WrittenOutInputsDecode := by
  unfold Obligations.WrittenOutInputsDecode
  decide

end Sys2Proof
end

section
/-! Ports (`00_scope.md` R6, `30_encoding.md` R100, R108): what a step does with the input presented next, for each port;
then O10, O11 and O12. -/

namespace Sys2Proof.Machine

/-! ## A step on the input presented first -/

theorem step_of_inputs {s : State} {inp : Input} {rest : List Input} (h : s.env.inputs = inp :: rest) :
    step s = State.stepInput { s with env := { s.env with inputs := rest } } inp := by
  simp only [step, State.takeInput, h]

theorem step_presentInput (s : State) (inp : Input) : step (s.presentInput inp) = s.stepInput inp :=
  step_of_inputs rfl

theorem State.stepInput_command {p : List Byte} {i : Instr} (h : decodeCommand p = .ok i) (s : State) :
    s.stepInput (.command p) = exec i s := by
  simp only [State.stepInput, h]

theorem State.stepInput_malformed {p : List Byte} {err : DecodeError} (h : decodeCommand p = .error err) (s : State) :
    s.stepInput (.command p) = .next s.illegalCommand := by
  simp only [State.stepInput, h]

theorem State.stepInput_timer {l : Byte} {i : Instr} (h : decodeTimer l = .ok i) (s : State) :
    s.stepInput (.timer l) = exec i s := by
  simp only [State.stepInput, h]

theorem State.stepInput_badTimerLine {l : Byte} {err : DecodeError} (h : decodeTimer l = .error err) (s : State) :
    s.stepInput (.timer l) = .next s.badTimerLine := by
  simp only [State.stepInput, h]

theorem State.stepInput_dispatch_cons {s : State} {e : IrqEvent} {q : List IrqEvent} (h : s.irqQ = e :: q) :
    s.stepInput .dispatch = exec (instrOfEvent e) (s.setIrqQ q) := by
  simp only [State.stepInput, h]

theorem State.stepInput_dispatch_nil {s : State} (h : s.irqQ = []) : s.stepInput .dispatch = .next s := by
  simp only [State.stepInput, h]

/-- With nothing ready a step takes a free input, or waits (log 2). -/
theorem step_of_inputs_nil {s : State} (h : s.env.inputs = []) :
    step s = match Config.freeInput s.env.draws with
      | some inp => step { s with env := { s.env with inputs := [inp], draws := s.env.draws + 1 } }
      | none => .next { s with env := { s.env with draws := s.env.draws + 1 } } := by
  cases hfree : Config.freeInput s.env.draws <;> simp only [step, State.takeInput, h, hfree]

/-- Settles O10, clause by clause from the port the input stands at. -/
theorem stepRunsTheDecodedInstruction : Obligations.StepRunsTheDecodedInstruction := by
  intro s rest
  refine ⟨fun p i h hdec => ?command, fun l i h hdec => ?timer, fun e q h hq => ?head, fun h hq => ?empty,
    step_of_inputs_nil⟩
  case command => exact (step_of_inputs h).trans (State.stepInput_command hdec _)
  case timer => exact (step_of_inputs h).trans (State.stepInput_timer hdec _)
  case head => exact (step_of_inputs h).trans (State.stepInput_dispatch_cons hq)
  case empty => exact (step_of_inputs h).trans (State.stepInput_dispatch_nil hq)

/-! ## Malformed inputs -/

theorem State.illegalCommand_eq (s : State) :
    s.illegalCommand = { s with fault := s.fault ||| 0x1, trace := s.trace ++ [.response statusError] } := by
  rw [← respError_eq_statusError]
  rfl

theorem decodeTimer_of_gt_two {l : Byte} (h : 2 < l.toNat) : decodeTimer l = .error .badTimerLine := by
  have hne (k : Byte) (hk : k.toNat ≤ 2) : ¬ l = k := by
    rintro rfl
    omega
  rw [decodeTimer, if_neg (hne 0 (by decide)), if_neg (hne 1 (by decide)), if_neg (hne 2 (by decide))]

theorem decodeCommand_of_reserved {op : Byte} (h : op = 0 ∨ 0x24 ≤ op.toNat) (bs : List Byte) :
    decodeCommand (op :: bs) = .error .reservedOpcode := by
  have hop : op.toNat = 0 ∨ 0x24 ≤ op.toNat := h.imp_left fun h => by rw [h]; rfl
  rw [decodeCommand, decodeOperands]
  split
  case h_36 => rfl
  all_goals omega

/-- Settles O12. -/
theorem malformedInputsRaiseTheirFault : Obligations.MalformedInputsRaiseTheirFault := by
  refine ⟨fun s rest p err h hdec => ?packet, fun s rest l h hl => ?line, fun op bs hop => ?opcode⟩
  case packet => rw [step_of_inputs h, State.stepInput_malformed hdec, State.illegalCommand_eq]
  case line => exact (step_of_inputs h).trans (State.stepInput_badTimerLine (decodeTimer_of_gt_two hl) _)
  case opcode => exact ⟨_, decodeCommand_of_reserved hop bs⟩

/-! ## Table words (log 11) -/

/-- The input a table word is read as, and the instruction it stands for there. -/
theorem tableInput_cases {nbits w : Nat} {inp : Input} {i : Instr} (h : tableInput nbits w = some (inp, i)) :
    (∃ p, inp = .command p ∧ decodeCommand p = .ok i) ∨ (∃ v, inp = .irq v ∧ decodeVector v = [i]) ∨
    ∃ l, inp = .timer l ∧ decodeTimer l = .ok i := by
  have hcommand (h : tableCommand nbits w = some (inp, i)) : ∃ p, inp = .command p ∧ decodeCommand p = .ok i := by
    unfold tableCommand at h
    split at h <;> cases h
    exact ⟨_, rfl, ‹_›⟩
  have hvector (h : tableVector nbits w = some (inp, i)) : ∃ v, inp = .irq v ∧ decodeVector v = [i] := by
    unfold tableVector at h
    split at h <;> cases h
    exact ⟨_, rfl, ‹_›⟩
  have htimer (h : tableTimer nbits w = some (inp, i)) : ∃ l, inp = .timer l ∧ decodeTimer l = .ok i := by
    unfold tableTimer at h
    split at h <;> cases h
    exact ⟨_, rfl, ‹_›⟩
  unfold tableInput at h
  split at h
  · rw [Option.or_eq_some_iff] at h
    obtain h | ⟨-, h⟩ := h
    · exact .inr (.inl (hvector h))
    · exact .inl (hcommand h)
  · rw [Option.or_eq_some_iff, Option.or_eq_some_iff] at h
    obtain (h | ⟨-, h⟩) | ⟨-, h⟩ := h
    · exact .inl (hcommand h)
    · exact .inr (.inl (hvector h))
    · exact .inr (.inr (htimer h))

theorem eventOfInstr_of_decodeCommand {p : List Byte} {i : Instr} (h : decodeCommand p = .ok i) : eventOfInstr i = none := by
  have he := (decodeCommand_eq_ok_iff.1 h).2
  cases i <;> simp only [eventOfInstr, encode, reduceCtorEq] at he ⊢

theorem eventOfInstr_of_decodeTimer {l : Byte} {i : Instr} (h : decodeTimer l = .ok i) : eventOfInstr i = none := by
  unfold decodeTimer at h
  split at h
  · cases h; rfl
  split at h
  · cases h; rfl
  split at h <;> cases h
  rfl

theorem eventOfInstr_instrOfEvent (e : IrqEvent) : eventOfInstr (instrOfEvent e) = some e := by cases e <;> rfl

/-- A vector with no event's bit has none behind any mask. -/
theorem vectorEvents_and_of_nil {v : U16} (h : vectorEvents v = []) (m : U16) : vectorEvents (v &&& m) = [] := by
  rw [vectorEvents_eq_priorityEvents, priorityEvents, List.filter_eq_nil_iff] at h ⊢
  simp only [List.forall_mem_cons, eventBit, BitVec.getLsbD_and, Bool.and_eq_true] at h ⊢
  tauto

/-- A vector that stands for one instruction: one event, or reserved bits alone. -/
theorem decodeVector_eq_singleton {v : U16} {i : Instr} (h : decodeVector v = [i]) :
    (∃ e, i = instrOfEvent e) ∨
    (v &&& reservedIrqBits ≠ 0 ∧ vectorEvents v = [] ∧ i = .irqReserved (v &&& reservedIrqBits)) := by
  unfold decodeVector at h
  split at h
  case isTrue =>
    obtain ⟨e, -, he⟩ := List.map_eq_singleton_iff.1 h
    exact .inl ⟨e, he.symm⟩
  case isFalse hne =>
    obtain ⟨rfl, hnil⟩ := List.cons.inj h
    exact .inr ⟨hne, List.map_eq_nil_iff.1 hnil, rfl⟩

/-- An event is queued at the head and dispatched; anything else is run as its input. -/
theorem step_presentInstr_event (s : State) (inp : Input) (e : IrqEvent) :
    step (s.presentInstr inp (instrOfEvent e)) = exec (instrOfEvent e) s := by
  rw [State.presentInstr, eventOfInstr_instrOfEvent]
  exact (step_presentInput _ _).trans (State.stepInput_dispatch_cons rfl)

theorem step_presentInstr_of_none {i : Instr} (h : eventOfInstr i = none) (s : State) (inp : Input) :
    step (s.presentInstr inp i) = s.stepInput inp := by
  rw [State.presentInstr, h]
  exact step_presentInput s inp

/-- Settles O11, by the port the word is read at. -/
theorem aTableWordRunsAsTheNextStep : Obligations.ATableWordRunsAsTheNextStep := by
  intro s nbits w i h
  obtain ⟨⟨inp, _⟩, htable, rfl⟩ := Option.map_eq_some_iff.1 h
  rw [State.withFetchWord, htable]
  obtain ⟨p, rfl, hdec⟩ | ⟨v, rfl, hdec⟩ | ⟨l, rfl, hdec⟩ := tableInput_cases htable
  · exact (step_presentInstr_of_none (eventOfInstr_of_decodeCommand hdec) s _).trans (State.stepInput_command hdec s)
  · obtain ⟨e, rfl⟩ | ⟨hne, hnil, rfl⟩ := decodeVector_eq_singleton hdec
    · exact step_presentInstr_event s _ e
    · have hraise : s.raiseIrq v = s.raiseFault .badEvent := by
        rw [State.raiseIrq, if_neg hne, BitVec.and_assoc, vectorEvents_and_of_nil hnil]
        rfl
      exact (step_presentInstr_of_none rfl s _).trans (congrArg Host.Outcome.next hraise)
  · exact (step_presentInstr_of_none (eventOfInstr_of_decodeTimer hdec) s _).trans (State.stepInput_timer hdec s)

end Sys2Proof.Machine
end

section
/-! Reset, totality, the check of `Initialised`, and the inputs that are dropped (`70_reset_and_hazards.md` R420, R421;
`10_state.md` R23; `60_exceptions.md` R350, R353): O1, O2, O4, O9, O21 and O50. -/

namespace Sys2Proof.Machine

/-! ## Reset and Init -/

theorem State.reset_atReset : State.reset.AtReset := by
  unfold State.AtReset
  decide

/-- Settles O1. -/
theorem resetHoldsTheSpecifiedValues : Obligations.ResetHoldsTheSpecifiedValues :=
  ⟨rfl, rfl, rfl, State.reset_atReset⟩

/-- A state with an empty queue, no transfer, nothing armed and the mask and configuration of reset meets the invariant,
before `Init` and after it. -/
theorem State.inv_of_reset {s : State} (hradio : s.radioState = .idle) (hmask : s.irqMaskShadow = 0) (hq : s.irqQ = [])
    (htx : s.txTimer.armed = false) (hrx : s.rxTimer.armed = false) (hchunk : s.chunkTimer.armed = false)
    (hmp : s.mp = .reset) (hlp : s.lp = .reset) (hstage : s.rxStage.length = 255) (hbuf : s.radioBuffer.length = 256) :
    s.Inv := by
  refine ⟨⟨?_, ?_, ?_⟩, ?_, ?_, ?_, ?_, ?_, ⟨?_, ?_, ?_⟩, ⟨hstage, hbuf⟩, ?_⟩
  all_goals
    simp [State.RfwInv, State.SequenceInv, LongPacket.TxInv, LongPacket.RxInv, State.PreInitInv, ModemParams.Inv, hradio,
      hmask, hq, htx, hrx, hchunk, hmp, hlp, LongPacket.reset, ModemParams.reset, irqQDepth, maskNone]

/-- Settles O2. -/
theorem invariantHoldsAtReset : Obligations.InvariantHoldsAtReset :=
  State.inv_of_reset rfl rfl rfl rfl rfl rfl rfl rfl State.reset_rxStage_length State.reset_radioBuffer_length

theorem exec_init_eq (m : Byte) (s : State) :
    exec (.init m) s = .next
      { s.initRegisters m with
        trace := s.trace ++ [.tmr (.init .tx), .tmr (.init .rx), .tmr (.init .chunk), standbyOutput,
          .ri (.setDioIrqParams 0), .response statusOk] } := by
  simp [exec, execInit, State.tmrInit, State.setTimer, State.timer, State.emit, State.standby, State.ri, State.respond,
    State.initRegisters, standbyOutput, maskNone, respOk_eq_statusOk]

/-- Settles O21: `AtReset` does not look at what `Init` sets and keeps. -/
theorem initReturnsToResetKeepingFault : Obligations.InitReturnsToResetKeepingFault := by
  intro s m
  exact ⟨_, exec_init_eq m s, rfl, rfl, rfl, State.reset_atReset, rfl⟩

/-! ## Totality -/

theorem exec_total (i : Instr) (s : State) : ∃ t, exec i s = .next t := by cases i <;> exact ⟨_, rfl⟩

theorem State.stepInput_total (s : State) (inp : Input) : ∃ t, s.stepInput inp = .next t := by
  cases inp with
  | command p =>
    cases h : decodeCommand p with
    | ok i => rw [State.stepInput_command h]; exact exec_total i s
    | error err => exact ⟨_, State.stepInput_malformed h s⟩
  | irq v => exact ⟨_, rfl⟩
  | dispatch =>
    cases h : s.irqQ with
    | nil => exact ⟨_, State.stepInput_dispatch_nil h⟩
    | cons e q => rw [State.stepInput_dispatch_cons h]; exact exec_total _ _
  | timer l =>
    cases h : decodeTimer l with
    | ok i => rw [State.stepInput_timer h]; exact exec_total i s
    | error err => exact ⟨_, State.stepInput_badTimerLine h s⟩

/-- Settles O4. -/
theorem everyInstructionCompletes : Obligations.EveryInstructionCompletes := by
  refine ⟨exec_total, fun s => ?_⟩
  unfold step
  split
  · exact State.stepInput_total _ _
  · exact ⟨_, rfl⟩

/-! ## Before Init -/

/-- A command that is refused before `Init` is the check of `Initialised` with that refusal (R23). -/
theorem exec_eq_ifInit {i : Instr} {r : List Byte} (h : notInitResponse i = some r) :
    ∃ body, ∀ s, exec i s = .next (s.ifInit r body) := by
  cases i <;> cases h <;> exact ⟨_, fun _ => rfl⟩

/-- Settles O9. -/
theorem commandsBeforeInitRaiseNotInit : Obligations.CommandsBeforeInitRaiseNotInit := by
  intro i s r h hs
  obtain ⟨body, hbody⟩ := exec_eq_ifInit h
  rw [hbody, State.ifInit_of_not_initialised hs]

/-! ## What is dropped -/

theorem State.dispatchTimeout_of_other {s : State} (ht : s.radioState ≠ .txRunning) (hr : s.radioState ≠ .rxRunning) :
    s.dispatchTimeout = s := by
  unfold State.dispatchTimeout
  split <;> simp_all

/-- An armed timer that expires outside its operation is disarmed and nothing else. -/
theorem State.txTimerExpiry_of_other {s : State} (h : s.radioState ≠ .txRunning) :
    s.txTimerExpiry = { s with txTimer := ⟨false, s.txTimer.value⟩ } := if_neg h

theorem State.rxTimerExpiry_of_other {s : State} (h : s.radioState ≠ .rxRunning) :
    s.rxTimerExpiry = { s with rxTimer := ⟨false, s.rxTimer.value⟩ } := if_neg h

theorem State.chunkTimerExpiry_of_other {s : State}
    (ht : ¬(s.radioState = .txRunning ∧ s.lp.dir = .tx ∧ s.lp.phase = .streaming))
    (hr : ¬(s.radioState = .rxRunning ∧ s.lp.dir = .rx ∧ (s.lp.phase = .streaming ∨ s.lp.phase = .lastChunk))) :
    s.chunkTimerExpiry = { s with chunkTimer := ⟨false, s.chunkTimer.value⟩ } := (if_neg ht).trans (if_neg hr)

theorem exec_expireTxTimer_of_armed {s : State} (h : s.txTimer.armed = true) :
    exec .expireTxTimer s = .next s.txTimerExpiry := congrArg Host.Outcome.next (if_pos h)

theorem exec_expireRxTimer_of_armed {s : State} (h : s.rxTimer.armed = true) :
    exec .expireRxTimer s = .next s.rxTimerExpiry := congrArg Host.Outcome.next (if_pos h)

theorem exec_expireChunkTimer_of_armed {s : State} (h : s.chunkTimer.armed = true) :
    exec .expireChunkTimer s = .next s.chunkTimerExpiry := congrArg Host.Outcome.next (if_pos h)

theorem exec_expireTxTimer_of_unarmed {s : State} (h : s.txTimer.armed = false) : exec .expireTxTimer s = .next s :=
  congrArg Host.Outcome.next (if_neg (Bool.eq_false_iff.1 h))

theorem exec_expireRxTimer_of_unarmed {s : State} (h : s.rxTimer.armed = false) : exec .expireRxTimer s = .next s :=
  congrArg Host.Outcome.next (if_neg (Bool.eq_false_iff.1 h))

theorem exec_expireChunkTimer_of_unarmed {s : State} (h : s.chunkTimer.armed = false) :
    exec .expireChunkTimer s = .next s := congrArg Host.Outcome.next (if_neg (Bool.eq_false_iff.1 h))

/-- Settles O50: the gate of each dispatch and of each expiry. -/
theorem unexpectedEventsAndExpiriesAreDropped : Obligations.UnexpectedEventsAndExpiriesAreDropped := by
  intro s d v
  refine ⟨fun i hi => ?never, rfl, fun h => ?txDone, fun h i hi => ?receive, fun ht hr => ?timeout, fun h => ?cadDone,
    fun h => ?syncWord, exec_expireTxTimer_of_unarmed, exec_expireRxTimer_of_unarmed, exec_expireChunkTimer_of_unarmed,
    fun ha h => ?txTimer, fun ha h => ?rxTimer, fun ha ht hr => ?chunkTimer⟩
  case never =>
    simp only [List.mem_cons, List.not_mem_nil, or_false] at hi
    obtain rfl | rfl | rfl := hi <;> rfl
  case txDone => exact congrArg Host.Outcome.next (if_neg h)
  case receive =>
    have hgate : ¬(s.radioState = .rxRunning ∧ s.lp.dir = .none) := by tauto
    simp only [List.mem_cons, List.not_mem_nil, or_false] at hi
    obtain rfl | rfl | rfl := hi <;> exact congrArg Host.Outcome.next (if_neg hgate)
  case timeout => exact congrArg Host.Outcome.next (State.dispatchTimeout_of_other ht hr)
  case cadDone => exact congrArg Host.Outcome.next (if_neg h)
  case syncWord =>
    have hgate : ¬(s.radioState = .rxRunning ∧ s.lp.dir = .rx ∧ s.lp.phase = .headerPending) := by tauto
    exact congrArg Host.Outcome.next (if_neg hgate)
  case txTimer => rw [exec_expireTxTimer_of_armed ha, State.txTimerExpiry_of_other h]
  case rxTimer => rw [exec_expireRxTimer_of_armed ha, State.rxTimerExpiry_of_other h]
  case chunkTimer => rw [exec_expireChunkTimer_of_armed ha, State.chunkTimerExpiry_of_other ht hr]

end Sys2Proof.Machine
end

section
/-! The configuration commands (`40_modem_config.md` R152 to R156): every accepted one is an abort with a new `MP`
file, a new engine configuration and some outputs; one lemma per body says which. Then O26 to O33 and O35. -/

namespace Sys2Proof.Machine

/-! ## The result of a configuration -/

/-- `s` after a configuration: aborted, with `k` answers used, the `MP` file `m`, the engine's registers `l` and the outputs
`os`. -/
def State.configured (s : State) (k : Nat) (m : ModemParams) (l : LongPacket) (os : List Output) : State :=
  { s.aborted.skipAnswers k with mp := m, lp := l, trace := s.aborted.trace ++ os }

/-- The engine's registers outside RFW mode: cleared and not enabled (R272). -/
def LongPacket.disabled (l : LongPacket) : LongPacket := { l.cleared with enable := false }

/-- The engine's registers `RfwInit()` takes from the `MP` file (R271). -/
def LongPacket.rfwFrom (l : LongPacket) (m : ModemParams) : LongPacket :=
  { l.cleared with
    enable := true, lenW := lenWidthOf m.lengthMode, crcW := crcWidthOf m.crcType, crcType := m.crcType
    crcPoly := m.crcPoly, crcSeed := m.crcSeed, whiteOn := m.whiteMode != .off, whiteSeed := m.whiteSeed
    maxLen := m.maxPayloadLen, fixedLen := m.maxPayloadLen, bitrate := m.datarate }

theorem State.configured_output (s : State) (k : Nat) (m : ModemParams) (l : LongPacket) (os r : List Output) :
    (s.configured k m l os).output r = s.configured k m l (os ++ r) := by
  simp [State.configured, State.output]

/-- The transmit tail uses one more answer and emits the power (R153, R156). -/
theorem State.configured_txConfigTail (s : State) (k : Nat) (m : ModemParams) (l : LongPacket) (os : List Output)
    (power : Byte) (timeout : U32) :
    (s.configured k m l os).txConfigTail power timeout =
      s.configured (k + 1)
        { m with power := power, antSel := (s.answer k).setWidth 8, txTimeout := timeout, txValid := true } l
        (os ++ [.ri (.setRfTxPower power)]) := by
  rw [State.txConfigTail_eq]
  simp [State.configured, State.skipAnswers, State.answer, Nat.add_assoc, List.getElem?_drop]

/-! ## The `MP` file after each receive configuration (R152) -/

/-- The fields every kind writes. -/
def ModemParams.rxCommon (m : ModemParams) (c : RxConfig) (k : ModemKind) : ModemParams :=
  { m with
    modem := k, rxContinuous := c.rxContinuous, symbTimeout := effSymbTimeout c.rxContinuous c.symbTimeout
    maxPayloadLen := if c.fixLen then c.payloadLen.setWidth 16 else 255, freqHopOn := c.freqHopOn
    hopPeriod := c.hopPeriod, bandwidthAfc := c.bandwidthAfc }

def ModemParams.rxFsk (m : ModemParams) (c : RxConfig) : ModemParams :=
  { m.rxCommon c .fsk with
    datarate := c.datarate, bw := c.bandwidth, preambleLen := c.preambleLen, syncWordLen := 3, syncWord := syncFsk
    fixLen := c.fixLen, lengthMode := legacyLengthMode c.fixLen
    payloadLen := if c.fixLen then c.payloadLen.setWidth 16 else 255, crcOn := c.crcOn
    crcType := if c.crcOn then .ccitt2 else .off, crcPoly := Config.fskCrcPoly, crcSeed := Config.fskCrcSeed
    whiteMode := .hw, whiteSeed := Config.fskWhiteSeed
    rxTimeoutCfg := rxTimeoutMs (effSymbTimeout c.rxContinuous c.symbTimeout) c.datarate, rxValid := true }

def ModemParams.rxSigfox (m : ModemParams) (c : RxConfig) : ModemParams :=
  { m.rxCommon c .sigfoxRx with
    datarate := c.datarate, bw := c.bandwidth, preambleLen := c.preambleLen, syncWordLen := 2, syncWord := syncSigfoxRx
    fixLen := true, lengthMode := .fixed, maxPayloadLen := c.payloadLen.setWidth 16
    payloadLen := c.payloadLen.setWidth 16, crcOn := false, crcType := .off, crcPoly := Config.fskCrcPoly
    crcSeed := Config.fskCrcSeed, whiteMode := .off, whiteSeed := sigfoxRxWhiteSeed
    rxTimeoutCfg := rxTimeoutMs (effSymbTimeout c.rxContinuous c.symbTimeout) c.datarate, rxValid := true }

def ModemParams.rxLora (m : ModemParams) (c : RxConfig) : ModemParams :=
  { m.rxCommon c .lora with
    datarate := c.datarate, bw := loraBwHz c.bandwidth, coderate := c.coderate
    ldro := Machine.ldro (loraBwHz c.bandwidth) c.datarate, preambleLen := loraPreamble c.datarate c.preambleLen
    fixLen := c.fixLen, lengthMode := legacyLengthMode c.fixLen
    payloadLen := if c.fixLen then c.payloadLen.setWidth 16 else 255, crcOn := c.crcOn
    crcType := if c.crcOn then .other else .off, iqInverted := c.iqInverted, rxTimeoutCfg := noRxTimeout, rxValid := true }

theorem State.rxConfigFsk_eq (s : State) (c : RxConfig) :
    s.rxConfigFsk c =
      s.configured 0 (s.mp.rxFsk c) s.lp.disabled
        [.ri (.setModulationParams (.fsk false c.datarate s.mp.fdev (Config.fskBwCode c.bandwidth))),
          fskPacket (s.mp.rxFsk c) (s.mp.rxFsk c).payloadLen] := by
  unfold State.rxConfigFsk
  rw [State.rxConfigHead_eq, State.rxConfigFskPush_eq, State.buildPktFsk_hardware rfl]
  rfl

theorem State.rxConfigSigfox_eq (s : State) (c : RxConfig) :
    s.rxConfigSigfox c =
      s.configured 0 (s.mp.rxSigfox c) s.lp.disabled
        [.ri (.setModulationParams (.fsk false c.datarate s.mp.fdev (Config.fskBwCode c.bandwidth))),
          fskPacket (s.mp.rxSigfox c) (s.mp.rxSigfox c).payloadLen] := by
  unfold State.rxConfigSigfox
  rw [State.rxConfigHead_eq, State.rxConfigFskPush_eq, State.buildPktFsk_hardware rfl]
  rfl

/-- The read and the write of the IQ workaround, with the answer `v` of the read (R147). -/
def iqOutputs (iq : Bool) (v : Byte) : List Output :=
  [.ri (.read Config.addrIqPolarity), .ri (.write Config.addrIqPolarity (iqPolarityByte iq v))]

/-- The LoRa record of an `MP` file (R149, R150). -/
def loraPacket (m : ModemParams) : Output :=
  .ri (.setPacketParams
    (.lora m.preambleLen m.fixLen (loraPayloadLen m.payloadLen) m.crcOn m.iqInverted m.symbTimeout))

theorem State.rxConfigLora_eq (s : State) (c : RxConfig) :
    s.rxConfigLora c =
      s.configured 1 (s.mp.rxLora c) s.lp.disabled
        ([.ri (.setModulationParams (.lora (c.datarate.setWidth 8) (loraBwHz c.bandwidth) c.coderate
            (ldro (loraBwHz c.bandwidth) c.datarate))), loraPacket (s.mp.rxLora c)] ++
          iqOutputs c.iqInverted ((s.answer 0).setWidth 8)) := by
  unfold State.rxConfigLora
  rw [State.rxConfigHead_eq]
  simp only [State.iqWorkaround_eq, State.ri_eq, State.output_output]
  simp only [State.output, State.skipAnswers, State.setMp, State.configured, iqOutputs, loraPacket, List.append_assoc]
  rfl

/-! ## The `MP` file after each transmit configuration (R153), before its tail -/

/-- The fields every kind writes. -/
def ModemParams.txCommon (m : ModemParams) (c : TxConfig) (k : ModemKind) : ModemParams :=
  { m with modem := k, freqHopOn := c.freqHopOn, hopPeriod := c.hopPeriod, payloadLen := m.maxPayloadLen }

def ModemParams.txFsk (m : ModemParams) (c : TxConfig) : ModemParams :=
  { m.txCommon c .fsk with
    datarate := c.datarate, bw := c.bandwidth, fdev := c.fdev, preambleLen := c.preambleLen, syncWordLen := 3
    syncWord := syncFsk, fixLen := c.fixLen, lengthMode := legacyLengthMode c.fixLen, crcOn := c.crcOn
    crcType := if c.crcOn then .ccitt2 else .off, crcPoly := Config.fskCrcPoly, crcSeed := Config.fskCrcSeed
    whiteMode := .hw, whiteSeed := Config.fskWhiteSeed }

def ModemParams.txLora (m : ModemParams) (c : TxConfig) : ModemParams :=
  { m.txCommon c .lora with
    datarate := c.datarate, bw := loraBwHz c.bandwidth, coderate := c.coderate
    ldro := Machine.ldro (loraBwHz c.bandwidth) c.datarate, preambleLen := loraPreamble c.datarate c.preambleLen
    fixLen := c.fixLen, lengthMode := legacyLengthMode c.fixLen, crcOn := c.crcOn
    crcType := if c.crcOn then .other else .off, iqInverted := c.iqInverted }

def ModemParams.txSigfox (m : ModemParams) (c : TxConfig) : ModemParams :=
  { m.txCommon c .sigfoxTx with datarate := c.datarate }

theorem State.txConfigFsk_eq (s : State) (c : TxConfig) :
    s.txConfigFsk c =
      s.configured 0 (s.mp.txFsk c) s.lp.disabled
        [.ri (.setModulationParams (.fsk false c.datarate c.fdev (Config.fskBwCode c.bandwidth))),
          fskPacket (s.mp.txFsk c) s.mp.maxPayloadLen] := by
  unfold State.txConfigFsk
  rw [State.txConfigHead_eq]
  simp only [State.ri_eq]
  rw [State.buildPktFsk_hardware rfl, State.output_output]
  rfl

theorem State.txConfigLora_eq (s : State) (c : TxConfig) :
    s.txConfigLora c =
      s.configured 1 (s.mp.txLora c) s.lp.disabled
        ([.ri (.setModulationParams (.lora (c.datarate.setWidth 8) (loraBwHz c.bandwidth) c.coderate
            (ldro (loraBwHz c.bandwidth) c.datarate))), loraPacket (s.mp.txLora c)] ++
          iqOutputs c.iqInverted ((s.answer 0).setWidth 8)) := by
  unfold State.txConfigLora
  rw [State.txConfigHead_eq]
  simp only [State.iqWorkaround_eq, State.ri_eq, State.output_output]
  simp only [State.output, State.skipAnswers, State.setMp, State.configured, iqOutputs, loraPacket, List.append_assoc]
  rfl

theorem State.txConfigSigfox_eq (s : State) (c : TxConfig) :
    s.txConfigSigfox c =
      s.configured 0 (s.mp.txSigfox c) s.lp.disabled
        [.ri (.setModulationParams (.bpsk c.datarate)), .ri (.setPacketParams (.bpsk s.mp.maxPayloadLen))] := by
  unfold State.txConfigSigfox
  rw [State.txConfigHead_eq]
  simp only [State.ri_eq, State.output_output]
  rfl

/-! ## The generic configurations (R155, R156) -/

/-- The packet length a record programs. -/
def genericLen (g : Gcfg) (gm : GenericModes) : U16 :=
  if gm.rfw then BitVec.ofNat 16 (frameMax gm.lengthMode gm.crcType g.maxPayloadLen) else g.maxPayloadLen

/-- The engine's registers after a record. -/
def LongPacket.generic (l : LongPacket) (m : ModemParams) (gm : GenericModes) : LongPacket :=
  if gm.rfw then l.rfwFrom m else l.disabled

/-- The FSK record of an `MP` file with a packet length, in the mode the record selects (R150). -/
def genericPacket (m : ModemParams) (gm : GenericModes) (len : U16) : Output :=
  if gm.rfw then rfwPacket m len else fskPacket m len

def ModemParams.rxGeneric (m : ModemParams) (g : Gcfg) (gm : GenericModes) (rxContinuous : Bool) (symbTimeout : U16) :
    ModemParams :=
  { m.writeGeneric g gm with
    modem := .fsk, datarate := g.bitrate, bw := g.bandwidth, rxContinuous := rxContinuous
    symbTimeout := effSymbTimeout rxContinuous symbTimeout, payloadLen := genericLen g gm
    rxTimeoutCfg := rxTimeoutMs (effSymbTimeout rxContinuous symbTimeout) g.bitrate, rxValid := true }

/-- Before its tail. -/
def ModemParams.txGeneric (m : ModemParams) (k : ModemKind) (g : Gcfg) (gm : GenericModes) : ModemParams :=
  { m.writeGeneric g gm with modem := k, datarate := g.bitrate, fdev := g.fdev, payloadLen := genericLen g gm }

theorem State.rxGeneric_eq (s : State) (g : Gcfg) (gm : GenericModes) (cont : Bool) (symb : U16) :
    s.rxGeneric g gm cont symb =
      s.configured 0 (s.mp.rxGeneric g gm cont symb) (s.lp.generic (s.mp.rxGeneric g gm cont symb) gm)
        [.ri (.setModulationParams (.fsk false g.bitrate s.mp.fdev (Config.fskBwCode g.bandwidth))),
          genericPacket (s.mp.rxGeneric g gm cont symb) gm (genericLen g gm)] := by
  unfold State.rxGeneric
  rw [State.abort_rfwDeInit_eq]
  cases h : gm.rfw
  · simp only [State.genericLength_hardware _ _ h, State.ri_eq]
    rw [State.buildPktFsk_hardware rfl, State.output_output]
    simp only [genericPacket, LongPacket.generic, ModemParams.rxGeneric, genericLen, h]
    rfl
  · simp only [State.genericLength_rfw _ _ h, State.ri_eq]
    rw [State.buildPktFsk_rfw rfl, State.output_output]
    simp only [genericPacket, LongPacket.generic, ModemParams.rxGeneric, genericLen, h]
    rfl

theorem State.txGenericFsk_eq (s : State) (k : ModemKind) (g : Gcfg) (gm : GenericModes) :
    s.txGenericFsk k g gm =
      s.configured 0 (s.mp.txGeneric k g gm) (s.lp.generic (s.mp.txGeneric k g gm) gm)
        [.ri (.setModulationParams (.fsk (k == .msk) g.bitrate g.fdev (Config.fskBwCode s.mp.bw))),
          genericPacket (s.mp.txGeneric k g gm) gm (genericLen g gm)] := by
  unfold State.txGenericFsk
  rw [State.abort_rfwDeInit_eq]
  cases h : gm.rfw
  · simp only [State.genericLength_hardware _ _ h, State.ri_eq]
    rw [State.buildPktFsk_hardware rfl, State.output_output]
    simp only [genericPacket, LongPacket.generic, ModemParams.txGeneric, genericLen, h]
    rfl
  · simp only [State.genericLength_rfw _ _ h, State.ri_eq]
    rw [State.buildPktFsk_rfw rfl, State.output_output]
    simp only [genericPacket, LongPacket.generic, ModemParams.txGeneric, genericLen, h]
    rfl

theorem State.txGenericBpsk_eq (s : State) (g : Gcfg) :
    s.txGenericBpsk g =
      s.configured 0 { s.mp with modem := .bpsk, datarate := g.bitrate } s.lp.disabled
        [.ri (.setModulationParams (.bpsk g.bitrate)), .ri (.setPacketParams (.bpsk s.mp.payloadLen))] := by
  unfold State.txGenericBpsk
  rw [State.abort_rfwDeInit_eq]
  simp only [State.ri_eq, State.output_output]
  rfl

end Sys2Proof.Machine
end

section
/-! The configuration commands at the port (`40_modem_config.md` R141, R142, R152 to R156): which body an accepted command
runs and what a refused one answers; then O26 to O33. -/

namespace Sys2Proof.Machine

/-! ## Operands in the terms of the rules -/

theorem rxTimeoutMs_of_ne_zero (st : U16) {bitrate : U32} (h : bitrate ≠ 0) :
    rxTimeoutMs st bitrate = BitVec.ofNat 32 ((st.toNat * 8000 + bitrate.toNat - 1) / bitrate.toNat) := by
  have hne : bitrate.toNat ≠ 0 := fun h0 => h (BitVec.eq_of_toNat_eq h0)
  rw [rxTimeoutMs, ceilDiv_of_ne_zero _ hne]

theorem u32_eq_iff (a : U32) {n : Nat} (hn : n < 2 ^ 32) : a = BitVec.ofNat 32 n ↔ a.toNat = n := by
  rw [← BitVec.toNat_inj, BitVec.toNat_ofNat, Nat.mod_eq_of_lt hn]

theorem loraBwHz_eq_getD {idx : U32} (h : idx.toNat ≤ 2) :
    loraBwHz idx = [125000, 250000, 500000].getD idx.toNat 0 := by
  have hidx : idx = 0 ∨ idx = 1 ∨ idx = 2 := by
    have h0 := u32_eq_iff idx (n := 0) (by decide)
    have h1 := u32_eq_iff idx (n := 1) (by decide)
    have h2 := u32_eq_iff idx (n := 2) (by decide)
    have hcases : idx.toNat = 0 ∨ idx.toNat = 1 ∨ idx.toNat = 2 := by omega
    exact hcases.imp h0.2 (Or.imp h1.2 h2.2)
  obtain rfl | rfl | rfl := hidx <;> rfl

theorem loraPreamble_eq {sf : U32} (h : 5 ≤ sf.toNat) (n : U16) :
    loraPreamble sf n = if sf.toNat ≤ 6 ∧ n.toNat < 12 then 12 else n := by
  have hsf : (sf = 5 ∨ sf = 6) ↔ sf.toNat ≤ 6 := by
    have h5 := u32_eq_iff sf (n := 5) (by decide)
    have h6 := u32_eq_iff sf (n := 6) (by decide)
    rw [show (sf = 5 ∨ sf = 6) ↔ (sf.toNat = 5 ∨ sf.toNat = 6) from or_congr h5 h6]
    omega
  simp only [loraPreamble, hsf]

theorem ldro_eq_decide (bwHz sf : U32) :
    ldro bwHz sf =
      decide ((bwHz = 125000 ∧ (sf = 11 ∨ sf = 12)) ∨ (bwHz = 250000 ∧ sf = 12)) := by
  rw [Bool.eq_iff_iff]
  simp [ldro]

/-- The one-byte length of a LoRa record is the operand, or 255 (R149). -/
theorem loraPayloadLen_operand (fixLen : Bool) (len : Byte) :
    loraPayloadLen (if fixLen then len.setWidth 16 else 255) = if fixLen then len else 255 := by
  cases fixLen
  · exact loraPayloadLen_setWidth 255
  · exact loraPayloadLen_setWidth len

/-- The FSK record in either mode (R150). -/
theorem genericPacket_eq (m : ModemParams) (gm : GenericModes) (len : U16) :
    genericPacket m gm len =
      .ri (.setPacketParams (.fsk m.preambleLen m.syncWordLen m.syncWord (gm.rfw || m.fixLen) len
        (if gm.rfw then .off else m.crcType) m.crcPoly m.crcSeed (!gm.rfw && m.whiteMode == .hw)
        (m.whiteSeed.setWidth 16))) := by
  cases h : gm.rfw <;> simp [genericPacket, h, rfwPacket, fskPacket]

/-- Nine bits hold a seed in range. -/
theorem setWidth_setWidth_of_lt {v : U16} (h : v.toNat < 512) : (v.setWidth 9).setWidth 16 = v := by
  apply BitVec.eq_of_toNat_eq
  rw [BitVec.toNat_setWidth, BitVec.toNat_setWidth]
  omega

/-! ## SetRxConfig (R152) -/

section
variable {s : State} (hs : s.initialised = true)
include hs

theorem exec_setRxConfig_fsk {c : RxConfig} (hm : c.modem = 0) (hd : c.datarate ≠ 0) :
    exec (.setRxConfig c) s = .next ((s.rxConfigFsk c).output [.response statusOk]) := by
  have hk : modemOf c.modem = some .fsk := by rw [hm]; rfl
  simp only [exec, execSetRxConfig, State.ifInit_of_initialised hs, hk, if_neg hd, respOk_eq_statusOk]
  rfl

theorem exec_setRxConfig_sigfox {c : RxConfig} (hm : c.modem = 5) (hd : c.datarate ≠ 0) :
    exec (.setRxConfig c) s = .next ((s.rxConfigSigfox c).output [.response statusOk]) := by
  have hk : modemOf c.modem = some .sigfoxRx := by rw [hm]; rfl
  simp only [exec, execSetRxConfig, State.ifInit_of_initialised hs, hk, if_neg hd, respOk_eq_statusOk]
  rfl

theorem exec_setRxConfig_lora {c : RxConfig} (hm : c.modem = 1)
    (hr : loraInRange c.datarate c.bandwidth c.coderate = true) :
    exec (.setRxConfig c) s = .next ((s.rxConfigLora c).output [.response statusOk]) := by
  have hk : modemOf c.modem = some .lora := by rw [hm]; rfl
  simp only [exec, execSetRxConfig, State.ifInit_of_initialised hs, hk, if_pos hr, respOk_eq_statusOk]
  rfl

theorem exec_setRxConfig_zero {c : RxConfig} (hm : c.modem = 0 ∨ c.modem = 5) (hd : c.datarate = 0) :
    exec (.setRxConfig c) s = .next (s.output [.response statusError]) := by
  have hk : modemOf c.modem = some .fsk ∨ modemOf c.modem = some .sigfoxRx :=
    hm.imp (fun h => by rw [h]; rfl) (fun h => by rw [h]; rfl)
  obtain hk | hk := hk <;>
    simp only [exec, execSetRxConfig, State.ifInit_of_initialised hs, hk, if_pos hd, respError_eq_statusError,
      State.respond_eq]

theorem exec_setRxConfig_lora_range {c : RxConfig} (hm : c.modem = 1)
    (hr : ¬ loraInRange c.datarate c.bandwidth c.coderate = true) :
    exec (.setRxConfig c) s = .next (s.output [.response statusError]) := by
  have hk : modemOf c.modem = some .lora := by rw [hm]; rfl
  simp only [exec, execSetRxConfig, State.ifInit_of_initialised hs, hk, if_neg hr, respError_eq_statusError,
    State.respond_eq]

theorem exec_setRxConfig_unsupported {c : RxConfig} (h0 : c.modem ≠ 0) (h1 : c.modem ≠ 1) (h5 : c.modem ≠ 5) :
    exec (.setRxConfig c) s = .next (s.output [.response statusUnsupported]) := by
  simp only [exec, execSetRxConfig, State.ifInit_of_initialised hs, State.respond_eq,
    respUnsupported_eq_statusUnsupported]
  split
  case h_1 hk => exact absurd (modemOf_inj hk rfl) h0
  case h_2 hk => exact absurd (modemOf_inj hk rfl) h5
  case h_3 hk => exact absurd (modemOf_inj hk rfl) h1
  all_goals rfl

/-! ## SetTxConfig (R153) -/

theorem exec_setTxConfig_fsk {c : TxConfig} (hm : c.modem = 0) (hd : c.datarate ≠ 0) :
    exec (.setTxConfig c) s = .next (((s.txConfigFsk c).txConfigTail c.power c.timeout).output [.response statusOk]) := by
  have hk : modemOf c.modem = some .fsk := by rw [hm]; rfl
  simp only [exec, execSetTxConfig, State.ifInit_of_initialised hs, hk, if_neg hd, respOk_eq_statusOk]
  rfl

theorem exec_setTxConfig_sigfox {c : TxConfig} (hm : c.modem = 4) (hd : c.datarate ≠ 0) :
    exec (.setTxConfig c) s =
      .next (((s.txConfigSigfox c).txConfigTail c.power c.timeout).output [.response statusOk]) := by
  have hk : modemOf c.modem = some .sigfoxTx := by rw [hm]; rfl
  simp only [exec, execSetTxConfig, State.ifInit_of_initialised hs, hk, if_neg hd, respOk_eq_statusOk]
  rfl

theorem exec_setTxConfig_lora {c : TxConfig} (hm : c.modem = 1)
    (hr : loraInRange c.datarate c.bandwidth c.coderate = true) :
    exec (.setTxConfig c) s =
      .next (((s.txConfigLora c).txConfigTail c.power c.timeout).output [.response statusOk]) := by
  have hk : modemOf c.modem = some .lora := by rw [hm]; rfl
  simp only [exec, execSetTxConfig, State.ifInit_of_initialised hs, hk, if_pos hr, respOk_eq_statusOk]
  rfl

theorem exec_setTxConfig_zero {c : TxConfig} (hm : c.modem = 0 ∨ c.modem = 4) (hd : c.datarate = 0) :
    exec (.setTxConfig c) s = .next (s.output [.response statusError]) := by
  have hk : modemOf c.modem = some .fsk ∨ modemOf c.modem = some .sigfoxTx :=
    hm.imp (fun h => by rw [h]; rfl) (fun h => by rw [h]; rfl)
  obtain hk | hk := hk <;>
    simp only [exec, execSetTxConfig, State.ifInit_of_initialised hs, hk, if_pos hd, respError_eq_statusError,
      State.respond_eq]

theorem exec_setTxConfig_lora_range {c : TxConfig} (hm : c.modem = 1)
    (hr : ¬ loraInRange c.datarate c.bandwidth c.coderate = true) :
    exec (.setTxConfig c) s = .next (s.output [.response statusError]) := by
  have hk : modemOf c.modem = some .lora := by rw [hm]; rfl
  simp only [exec, execSetTxConfig, State.ifInit_of_initialised hs, hk, if_neg hr, respError_eq_statusError,
    State.respond_eq]

theorem exec_setTxConfig_unsupported {c : TxConfig} (h0 : c.modem ≠ 0) (h1 : c.modem ≠ 1) (h4 : c.modem ≠ 4) :
    exec (.setTxConfig c) s = .next (s.output [.response statusUnsupported]) := by
  simp only [exec, execSetTxConfig, State.ifInit_of_initialised hs, State.respond_eq,
    respUnsupported_eq_statusUnsupported]
  split
  case h_1 hk => exact absurd (modemOf_inj hk rfl) h0
  case h_2 hk => exact absurd (modemOf_inj hk rfl) h1
  case h_3 hk => exact absurd (modemOf_inj hk rfl) h4
  all_goals rfl

/-! ## The generic configurations (R155, R156) -/

theorem exec_setRxGenericConfig_fsk {g : Gcfg} {gm : GenericModes} (hm : g.modem = 0) (hg : genericModes g = some gm)
    (cont : Bool) (symb : U16) :
    exec (.setRxGenericConfig g cont symb) s = .next ((s.rxGeneric g gm cont symb).output [.response statusOk]) := by
  have hk : modemOf g.modem = some .fsk := by rw [hm]; rfl
  simp only [exec, execSetRxGenericConfig, State.ifInit_of_initialised hs, hk, hg, respOk_eq_statusOk]
  rfl

theorem exec_setRxGenericConfig_range {g : Gcfg} (hm : g.modem = 0) (hg : genericModes g = none) (cont : Bool)
    (symb : U16) : exec (.setRxGenericConfig g cont symb) s = .next (s.output [.response statusError]) := by
  have hk : modemOf g.modem = some .fsk := by rw [hm]; rfl
  simp only [exec, execSetRxGenericConfig, State.ifInit_of_initialised hs, hk, hg, respError_eq_statusError,
    State.respond_eq]

theorem exec_setRxGenericConfig_unsupported {g : Gcfg} (h0 : g.modem ≠ 0) (cont : Bool) (symb : U16) :
    exec (.setRxGenericConfig g cont symb) s = .next (s.output [.response statusUnsupported]) := by
  simp only [exec, execSetRxGenericConfig, State.ifInit_of_initialised hs, State.respond_eq,
    respUnsupported_eq_statusUnsupported]
  split
  case h_1 hk => exact absurd (modemOf_inj hk rfl) h0
  all_goals rfl

/-- `FSK` and `MSK` run the same checks and the same body. -/
theorem exec_setTxGenericConfig_fsk {g : Gcfg} {msk : Bool} (hm : g.modem = if msk then 2 else 0) (power : Byte)
    (timeout : U32) :
    exec (.setTxGenericConfig g power timeout) s =
      .next (s.txGenericChecked (if msk then .msk else .fsk) g power timeout) := by
  have hk : modemOf g.modem = some (if msk then .msk else .fsk) := by rw [hm]; cases msk <;> rfl
  cases msk <;> simp only [exec, execSetTxGenericConfig, State.ifInit_of_initialised hs, hk] <;> rfl

theorem exec_setTxGenericConfig_bpsk {g : Gcfg} (hm : g.modem = 3) (hb : g.bitrate ≠ 0) (power : Byte) (timeout : U32) :
    exec (.setTxGenericConfig g power timeout) s =
      .next (((s.txGenericBpsk g).txConfigTail power timeout).output [.response statusOk]) := by
  have hk : modemOf g.modem = some .bpsk := by rw [hm]; rfl
  simp only [exec, execSetTxGenericConfig, State.ifInit_of_initialised hs, hk, if_neg hb, respOk_eq_statusOk]
  rfl

theorem exec_setTxGenericConfig_bpsk_zero {g : Gcfg} (hm : g.modem = 3) (hb : g.bitrate = 0) (power : Byte)
    (timeout : U32) : exec (.setTxGenericConfig g power timeout) s = .next (s.output [.response statusError]) := by
  have hk : modemOf g.modem = some .bpsk := by rw [hm]; rfl
  simp only [exec, execSetTxGenericConfig, State.ifInit_of_initialised hs, hk, if_pos hb, respError_eq_statusError,
    State.respond_eq]

theorem exec_setTxGenericConfig_unsupported {g : Gcfg} (h0 : g.modem ≠ 0) (h2 : g.modem ≠ 2) (h3 : g.modem ≠ 3)
    (power : Byte) (timeout : U32) :
    exec (.setTxGenericConfig g power timeout) s = .next (s.output [.response statusUnsupported]) := by
  simp only [exec, execSetTxGenericConfig, State.ifInit_of_initialised hs, State.respond_eq,
    respUnsupported_eq_statusUnsupported]
  split
  case h_1 hk => exact absurd (modemOf_inj hk rfl) h0
  case h_2 hk => exact absurd (modemOf_inj hk rfl) h2
  case h_3 hk => exact absurd (modemOf_inj hk rfl) h3
  all_goals rfl

end

theorem State.txGenericChecked_of_some {g : Gcfg} {gm : GenericModes} (hg : genericModes g = some gm) (s : State)
    (k : ModemKind) (power : Byte) (timeout : U32) :
    s.txGenericChecked k g power timeout =
      ((s.txGenericFsk k g gm).txConfigTail power timeout).output [.response statusOk] := by
  simp only [State.txGenericChecked, hg, State.respond_eq, respOk_eq_statusOk]

theorem State.txGenericChecked_of_none {g : Gcfg} (hg : genericModes g = none) (s : State) (k : ModemKind) (power : Byte)
    (timeout : U32) : s.txGenericChecked k g power timeout = s.output [.response statusError] := by
  simp only [State.txGenericChecked, hg, State.respond_eq, respError_eq_statusError]

/-! ## The obligations -/

/-- Settles O26. -/
theorem setRxConfigForFskAndSigfoxRx : Obligations.SetRxConfigForFskAndSigfoxRx := by
  intro s c hs hd
  refine ⟨fun hm => ?fsk, fun hm => ?sigfox⟩
  case fsk =>
    rw [exec_setRxConfig_fsk hs hm hd, State.rxConfigFsk_eq, State.configured_output, ModemParams.rxFsk,
      rxTimeoutMs_of_ne_zero _ hd]
    rfl
  case sigfox =>
    rw [exec_setRxConfig_sigfox hs hm hd, State.rxConfigSigfox_eq, State.configured_output, ModemParams.rxSigfox,
      rxTimeoutMs_of_ne_zero _ hd]
    rfl

/-- Settles O27. -/
theorem setRxConfigForLora : Obligations.SetRxConfigForLora := by
  intro s c hs hm h5 h12 hbw h1 h4
  have hr := (loraInRange_iff c.datarate c.bandwidth c.coderate).2 ⟨h5, h12, hbw, h1, h4⟩
  rw [exec_setRxConfig_lora hs hm hr, State.rxConfigLora_eq, State.configured_output]
  simp only [loraPacket, ModemParams.rxLora, loraPayloadLen_operand, ModemParams.rxCommon, loraBwHz_eq_getD hbw,
    loraPreamble_eq h5, ldro_eq_decide, apply_ite (BitVec.setWidth 16)]
  rfl

/-- Settles O28. -/
theorem setTxConfigForFskAndSigfoxTx : Obligations.SetTxConfigForFskAndSigfoxTx := by
  intro s c hs hd
  refine ⟨fun hm => ?fsk, fun hm => ?sigfox⟩
  case fsk =>
    rw [exec_setTxConfig_fsk hs hm hd, State.txConfigFsk_eq, State.configured_txConfigTail, State.configured_output]
    rfl
  case sigfox =>
    rw [exec_setTxConfig_sigfox hs hm hd, State.txConfigSigfox_eq, State.configured_txConfigTail,
      State.configured_output]
    rfl

/-- Settles O29. -/
theorem setTxConfigForLora : Obligations.SetTxConfigForLora := by
  intro s c hs hm h5 h12 hbw h1 h4
  have hr := (loraInRange_iff c.datarate c.bandwidth c.coderate).2 ⟨h5, h12, hbw, h1, h4⟩
  rw [exec_setTxConfig_lora hs hm hr, State.txConfigLora_eq, State.configured_txConfigTail, State.configured_output]
  simp only [loraPacket, loraPayloadLen, ModemParams.txLora, ModemParams.txCommon, loraBwHz_eq_getD hbw,
    loraPreamble_eq h5, ldro_eq_decide]
  rfl

/-- Settles O31. -/
theorem setRxGenericConfigResult : Obligations.SetRxGenericConfigResult := by
  intro s g cont symb lm ct wm hs hm hg hlm hct hwm
  obtain ⟨hmodes, hlen⟩ := genericModes_of_inRange hg hlm hct hwm
  have hseed : (g.whiteSeed.setWidth 9).setWidth 16 = g.whiteSeed := by
    obtain ⟨-, -, -, -, -, hseed, -⟩ := hg
    exact setWidth_setWidth_of_lt hseed
  rw [exec_setRxGenericConfig_fsk hs hm hmodes, State.rxGeneric_eq, State.configured_output, genericPacket_eq]
  simp only [ModemParams.rxGeneric, ModemParams.writeGeneric, rxTimeoutMs_of_ne_zero _ hg.1, hseed, genericLen, hlen,
    LongPacket.generic, LongPacket.rfwFrom]
  rfl

/-- Settles O32: the checked body with the modes of the record. -/
theorem setTxGenericConfigForFskAndMsk : Obligations.SetTxGenericConfigForFskAndMsk := by
  intro s g power timeout msk lm ct wm hs hm hg hlm hct hwm
  obtain ⟨hmodes, hlen⟩ := genericModes_of_inRange hg hlm hct hwm
  have hseed : (g.whiteSeed.setWidth 9).setWidth 16 = g.whiteSeed := by
    obtain ⟨-, -, -, -, -, hseed, -⟩ := hg
    exact setWidth_setWidth_of_lt hseed
  have hmsk : ((if msk then ModemKind.msk else .fsk) == .msk) = msk := by cases msk <;> rfl
  rw [exec_setTxGenericConfig_fsk hs hm, State.txGenericChecked_of_some hmodes, State.txGenericFsk_eq,
    State.configured_txConfigTail, State.configured_output, genericPacket_eq, hmsk]
  simp only [ModemParams.txGeneric, ModemParams.writeGeneric, hseed, genericLen, hlen, LongPacket.generic,
    LongPacket.rfwFrom]
  rfl

/-- Settles O30: the refusals of each command. -/
theorem unsupportedKindsAndRangesAreRefusedWithoutEffect : Obligations.UnsupportedKindsAndRangesAreRefusedWithoutEffect := by
  intro s r x g m k p b n t hs
  refine ⟨fun i hi => ?unsupported, fun i hi => ?range⟩
  case unsupported =>
    obtain ⟨rfl, hm⟩ | ⟨rfl, h0, h1, h5⟩ | ⟨rfl, h0, h1, h4⟩ | ⟨rfl, h0⟩ | ⟨rfl, h0, h2, h3⟩ | ⟨rfl, h0, h1⟩ := hi
    · rw [exec_setModem_eq, if_pos hs, if_pos hm]
    · exact exec_setRxConfig_unsupported hs h0 h1 h5
    · exact exec_setTxConfig_unsupported hs h0 h1 h4
    · exact exec_setRxGenericConfig_unsupported hs h0 b n
    · exact exec_setTxGenericConfig_unsupported hs h0 h2 h3 p t
    · rw [exec_setMaxPayloadLength_eq, execSetMaxPayloadLength_unsupported hs h0 h1]
  case range =>
    obtain ⟨rfl, hm, hd⟩ | ⟨rfl, hm, hr⟩ | ⟨rfl, hm, hd⟩ | ⟨rfl, hm, hr⟩ | ⟨rfl, hm, hg⟩ | ⟨rfl, hm, hg⟩ |
      ⟨rfl, hm, hb⟩ := hi
    · exact exec_setRxConfig_zero hs hm hd
    · exact exec_setRxConfig_lora_range hs hm (mt (loraInRange_iff _ _ _).1 hr)
    · exact exec_setTxConfig_zero hs hm hd
    · exact exec_setTxConfig_lora_range hs hm (mt (loraInRange_iff _ _ _).1 hr)
    · exact exec_setRxGenericConfig_range hs hm (genericModes_of_not_inRange hg) b n
    · have hmsk : g.modem = if g.modem = 2 then 2 else 0 := by split <;> tauto
      rw [exec_setTxGenericConfig_fsk hs (msk := decide (g.modem = 2)) (by simpa using hmsk),
        State.txGenericChecked_of_none (genericModes_of_not_inRange hg)]
    · exact exec_setTxGenericConfig_bpsk_zero hs hm hb p t

/-- Settles O33. -/
theorem setTxGenericConfigForBpsk : Obligations.SetTxGenericConfigForBpsk := by
  intro s g power timeout hs hm hb
  rw [exec_setTxGenericConfig_bpsk hs hm hb, State.txGenericBpsk_eq, State.configured_txConfigTail,
    State.configured_output]
  rfl

end Sys2Proof.Machine
end

section
/-! What a configuration command can do (`40_modem_config.md` R140 to R142, R154): its operands alone choose one body, which
it runs after `Init`; and a body repeated pushes the same records, O35. -/

namespace Sys2Proof.Machine

/-! ## The bodies -/

/-- The bodies of the four configuration commands, with the response. -/
inductive ConfigBody : (State → State) → Prop
  | refused (r : List Byte) : ConfigBody fun s => s.output [.response r]
  | rxFsk (c : RxConfig) : ConfigBody fun s => (s.rxConfigFsk c).output [.response statusOk]
  | rxSigfox (c : RxConfig) : ConfigBody fun s => (s.rxConfigSigfox c).output [.response statusOk]
  | rxLora (c : RxConfig) : ConfigBody fun s => (s.rxConfigLora c).output [.response statusOk]
  | txFsk (c : TxConfig) :
      ConfigBody fun s => ((s.txConfigFsk c).txConfigTail c.power c.timeout).output [.response statusOk]
  | txSigfox (c : TxConfig) :
      ConfigBody fun s => ((s.txConfigSigfox c).txConfigTail c.power c.timeout).output [.response statusOk]
  | txLora (c : TxConfig) :
      ConfigBody fun s => ((s.txConfigLora c).txConfigTail c.power c.timeout).output [.response statusOk]
  | rxGeneric {g : Gcfg} {gm : GenericModes} (hg : genericModes g = some gm) (cont : Bool) (symb : U16) :
      ConfigBody fun s => (s.rxGeneric g gm cont symb).output [.response statusOk]
  | txGeneric {g : Gcfg} {gm : GenericModes} (hg : genericModes g = some gm) (k : ModemKind) (power : Byte)
      (timeout : U32) :
      ConfigBody fun s => ((s.txGenericFsk k g gm).txConfigTail power timeout).output [.response statusOk]
  | txBpsk (g : Gcfg) (power : Byte) (timeout : U32) :
      ConfigBody fun s => ((s.txGenericBpsk g).txConfigTail power timeout).output [.response statusOk]

/-- After `Init` the instruction runs one configuration body, whatever the state; before, it is refused. -/
def RunsConfigBody (i : Instr) : Prop :=
  ∃ body, ConfigBody body ∧
    ∀ s, exec i s = .next (if s.initialised = true then body s else s.notInit statusError)

theorem RunsConfigBody.of_initialised {i : Instr} {body : State → State} (hr : notInitResponse i = some statusError)
    (hbody : ConfigBody body) (h : ∀ {s : State}, s.initialised = true → exec i s = .next (body s)) :
    RunsConfigBody i := by
  refine ⟨body, hbody, fun s => ?_⟩
  split
  case isTrue hs => exact h hs
  case isFalse hs => exact commandsBeforeInitRaiseNotInit i s _ hr (Bool.eq_false_iff.2 hs)

theorem setRxConfig_runsConfigBody (c : RxConfig) : RunsConfigBody (.setRxConfig c) := by
  by_cases h1 : c.modem = 1
  · by_cases hr : loraInRange c.datarate c.bandwidth c.coderate = true
    · exact .of_initialised rfl (.rxLora c) fun hs => exec_setRxConfig_lora hs h1 hr
    · exact .of_initialised rfl (.refused _) fun hs => exec_setRxConfig_lora_range hs h1 hr
  by_cases hk : c.modem = 0 ∨ c.modem = 5
  · by_cases hd : c.datarate = 0
    · exact .of_initialised rfl (.refused _) fun hs => exec_setRxConfig_zero hs hk hd
    obtain h0 | h5 := hk
    · exact .of_initialised rfl (.rxFsk c) fun hs => exec_setRxConfig_fsk hs h0 hd
    · exact .of_initialised rfl (.rxSigfox c) fun hs => exec_setRxConfig_sigfox hs h5 hd
  · exact .of_initialised rfl (.refused _) fun hs =>
      exec_setRxConfig_unsupported hs (hk <| .inl ·) h1 (hk <| .inr ·)

theorem setTxConfig_runsConfigBody (c : TxConfig) : RunsConfigBody (.setTxConfig c) := by
  by_cases h1 : c.modem = 1
  · by_cases hr : loraInRange c.datarate c.bandwidth c.coderate = true
    · exact .of_initialised rfl (.txLora c) fun hs => exec_setTxConfig_lora hs h1 hr
    · exact .of_initialised rfl (.refused _) fun hs => exec_setTxConfig_lora_range hs h1 hr
  by_cases hk : c.modem = 0 ∨ c.modem = 4
  · by_cases hd : c.datarate = 0
    · exact .of_initialised rfl (.refused _) fun hs => exec_setTxConfig_zero hs hk hd
    obtain h0 | h4 := hk
    · exact .of_initialised rfl (.txFsk c) fun hs => exec_setTxConfig_fsk hs h0 hd
    · exact .of_initialised rfl (.txSigfox c) fun hs => exec_setTxConfig_sigfox hs h4 hd
  · exact .of_initialised rfl (.refused _) fun hs =>
      exec_setTxConfig_unsupported hs (hk <| .inl ·) h1 (hk <| .inr ·)

theorem setRxGenericConfig_runsConfigBody (g : Gcfg) (cont : Bool) (symb : U16) :
    RunsConfigBody (.setRxGenericConfig g cont symb) := by
  by_cases h0 : g.modem = 0
  · cases hg : genericModes g with
    | some gm => exact .of_initialised rfl (.rxGeneric hg cont symb) fun hs => exec_setRxGenericConfig_fsk hs h0 hg _ _
    | none => exact .of_initialised rfl (.refused _) fun hs => exec_setRxGenericConfig_range hs h0 hg _ _
  · exact .of_initialised rfl (.refused _) fun hs => exec_setRxGenericConfig_unsupported hs h0 _ _

theorem setTxGenericConfig_runsConfigBody (g : Gcfg) (power : Byte) (timeout : U32) :
    RunsConfigBody (.setTxGenericConfig g power timeout) := by
  have hchecked (msk : Bool) (hm : g.modem = if msk then 2 else 0) :
      RunsConfigBody (.setTxGenericConfig g power timeout) := by
    cases hg : genericModes g with
    | some gm =>
      refine .of_initialised rfl (.txGeneric hg (if msk then .msk else .fsk) power timeout) fun hs => ?_
      rw [exec_setTxGenericConfig_fsk hs hm, State.txGenericChecked_of_some hg]
    | none =>
      refine .of_initialised rfl (.refused statusError) fun hs => ?_
      rw [exec_setTxGenericConfig_fsk hs hm, State.txGenericChecked_of_none hg]
  by_cases h0 : g.modem = 0
  · exact hchecked false h0
  by_cases h2 : g.modem = 2
  · exact hchecked true h2
  by_cases h3 : g.modem = 3
  · by_cases hb : g.bitrate = 0
    · exact .of_initialised rfl (.refused _) fun hs => exec_setTxGenericConfig_bpsk_zero hs h3 hb _ _
    · exact .of_initialised rfl (.txBpsk g power timeout) fun hs => exec_setTxGenericConfig_bpsk hs h3 hb _ _
  · exact .of_initialised rfl (.refused _) fun hs => exec_setTxGenericConfig_unsupported hs h0 h2 h3 _ _

/-! ## Idempotence of the pushed records (R154) -/

/-- The body appends outputs whose records depend on the `MP` file alone, and leaves an `MP` file that gives the same. -/
def RepeatsRecords (body : State → State) : Prop :=
  ∃ records : ModemParams → List Output,
    (∀ s, ∃ os, (body s).trace = s.trace ++ os ∧ os.filter Output.isRecord = records s.mp) ∧
    ∀ s, records (body s).mp = records s.mp

theorem State.configured_trace (s : State) (k : Nat) (m : ModemParams) (l : LongPacket) (os : List Output) :
    (s.configured k m l os).trace =
      s.trace ++ ([.tmr (.stop .tx), .tmr (.stop .rx), .tmr (.stop .chunk), standbyOutput] ++ os) :=
  List.append_assoc _ _ _

/-- An abort pushes no record, and neither does a response. -/
theorem RepeatsRecords.of_configured {body : State → State} (records : ModemParams → List Output)
    (h : ∀ s, ∃ k m l os, body s = s.configured k m l os ∧ os.filter Output.isRecord = records s.mp ∧
      records m = records s.mp) :
    RepeatsRecords fun s => (body s).output [.response statusOk] := by
  refine ⟨records, fun s => ?_, fun s => ?_⟩ <;> dsimp only
  · obtain ⟨k, m, l, os, hbody, hos, -⟩ := h s
    refine ⟨_, by rw [hbody, State.configured_output, State.configured_trace], ?_⟩
    simp [Output.isRecord, standbyOutput, hos]
  · obtain ⟨k, m, l, os, hbody, -, hm⟩ := h s
    rw [hbody]
    exact hm

theorem State.eq_configured_tail {s u : State} {k : Nat} {m : ModemParams} {l : LongPacket} {os : List Output}
    (h : u = s.configured k m l os) (power : Byte) (timeout : U32) :
    u.txConfigTail power timeout =
      s.configured (k + 1)
        { m with power := power, antSel := (s.answer k).setWidth 8, txTimeout := timeout, txValid := true } l
        (os ++ [.ri (.setRfTxPower power)]) := by
  rw [h, State.configured_txConfigTail]

/-- The records read only what the body writes from its operands, and what it leaves. -/
theorem ConfigBody.repeatsRecords {body : State → State} (h : ConfigBody body) : RepeatsRecords body := by
  cases h
  case refused r => exact ⟨fun _ => [], fun s => ⟨_, rfl, rfl⟩, fun _ => rfl⟩
  case rxFsk c =>
    exact .of_configured
      (fun m => [.ri (.setModulationParams (.fsk false c.datarate m.fdev (Config.fskBwCode c.bandwidth))),
        fskPacket (m.rxFsk c) (m.rxFsk c).payloadLen])
      fun s => ⟨_, _, _, _, s.rxConfigFsk_eq c, rfl, rfl⟩
  case rxSigfox c =>
    exact .of_configured
      (fun m => [.ri (.setModulationParams (.fsk false c.datarate m.fdev (Config.fskBwCode c.bandwidth))),
        fskPacket (m.rxSigfox c) (m.rxSigfox c).payloadLen])
      fun s => ⟨_, _, _, _, s.rxConfigSigfox_eq c, rfl, rfl⟩
  case rxLora c =>
    exact .of_configured
      (fun m => [.ri (.setModulationParams (.lora (c.datarate.setWidth 8) (loraBwHz c.bandwidth) c.coderate
        (ldro (loraBwHz c.bandwidth) c.datarate))), loraPacket (m.rxLora c)])
      fun s => ⟨_, _, _, _, s.rxConfigLora_eq c, rfl, rfl⟩
  case txFsk c =>
    exact .of_configured
      (fun m => [.ri (.setModulationParams (.fsk false c.datarate c.fdev (Config.fskBwCode c.bandwidth))),
        fskPacket (m.txFsk c) m.maxPayloadLen])
      fun s => ⟨_, _, _, _, State.eq_configured_tail (s.txConfigFsk_eq c) _ _, rfl, rfl⟩
  case txSigfox c =>
    exact .of_configured
      (fun m => [.ri (.setModulationParams (.bpsk c.datarate)), .ri (.setPacketParams (.bpsk m.maxPayloadLen))])
      fun s => ⟨_, _, _, _, State.eq_configured_tail (s.txConfigSigfox_eq c) _ _, rfl, rfl⟩
  case txLora c =>
    exact .of_configured
      (fun m => [.ri (.setModulationParams (.lora (c.datarate.setWidth 8) (loraBwHz c.bandwidth) c.coderate
        (ldro (loraBwHz c.bandwidth) c.datarate))), loraPacket (m.txLora c)])
      fun s => ⟨_, _, _, _, State.eq_configured_tail (s.txConfigLora_eq c) _ _, rfl, rfl⟩
  case rxGeneric g gm _ cont symb =>
    refine .of_configured
      (fun m => [.ri (.setModulationParams (.fsk false g.bitrate m.fdev (Config.fskBwCode g.bandwidth))),
        genericPacket (m.rxGeneric g gm cont symb) gm (genericLen g gm)])
      fun s => ⟨_, _, _, _, s.rxGeneric_eq g gm cont symb, ?_, rfl⟩
    simp only [genericPacket_eq]
    rfl
  case txGeneric g gm _ k power timeout =>
    refine .of_configured
      (fun m => [.ri (.setModulationParams (.fsk (k == .msk) g.bitrate g.fdev (Config.fskBwCode m.bw))),
        genericPacket (m.txGeneric k g gm) gm (genericLen g gm)])
      fun s => ⟨_, _, _, _, State.eq_configured_tail (s.txGenericFsk_eq k g gm) _ _, ?_, rfl⟩
    simp only [genericPacket_eq]
    rfl
  case txBpsk g power timeout =>
    exact .of_configured
      (fun m => [.ri (.setModulationParams (.bpsk g.bitrate)), .ri (.setPacketParams (.bpsk m.payloadLen))])
      fun s => ⟨_, _, _, _, State.eq_configured_tail (s.txGenericBpsk_eq g) _ _, rfl, rfl⟩

theorem ConfigBody.initialised {body : State → State} (h : ConfigBody body) (s : State) :
    (body s).initialised = s.initialised := by
  cases h <;>
    simp only [State.rxConfigFsk_eq, State.rxConfigSigfox_eq, State.rxConfigLora_eq, State.txConfigFsk_eq,
      State.txConfigSigfox_eq, State.txConfigLora_eq, State.rxGeneric_eq, State.txGenericFsk_eq, State.txGenericBpsk_eq,
      State.configured_txConfigTail, State.configured_output] <;> rfl

theorem RunsConfigBody.repeats {i : Instr} (h : RunsConfigBody i) {s t u : State} (ht : exec i s = .next t)
    (hu : exec i t = .next u) :
    ∃ a b, t.trace = s.trace ++ a ∧ u.trace = t.trace ++ b ∧ a.filter Output.isRecord = b.filter Output.isRecord := by
  obtain ⟨body, hbody, hexec⟩ := h
  rw [hexec] at ht hu
  cases ht
  cases hu
  split
  case isTrue hs =>
    have ht : (body s).initialised = true := by rw [hbody.initialised, hs]
    obtain ⟨records, hpush, hkeep⟩ := hbody.repeatsRecords
    obtain ⟨a, htrace, ha⟩ := hpush s
    obtain ⟨b, htrace', hb⟩ := hpush (body s)
    rw [if_pos ht]
    exact ⟨a, b, htrace, htrace', by rw [ha, hb, hkeep]⟩
  case isFalse hs =>
    have ht : ¬(s.notInit statusError).initialised = true := hs
    rw [if_neg ht]
    exact ⟨_, _, rfl, rfl, rfl⟩

/-- Settles O35. -/
theorem repeatedConfigurationPushesTheSameRecords : Obligations.RepeatedConfigurationPushesTheSameRecords := by
  intro s t u i r x g p b n ms hi ht hu
  have hbody : RunsConfigBody i := by
    simp only [List.mem_cons, List.not_mem_nil, or_false] at hi
    obtain rfl | rfl | rfl | rfl := hi
    · exact setRxConfig_runsConfigBody r
    · exact setTxConfig_runsConfigBody x
    · exact setRxGenericConfig_runsConfigBody g b n
    · exact setTxGenericConfig_runsConfigBody g p ms
  exact hbody.repeats ht hu

end Sys2Proof.Machine
end

section
/-! Time on air (`41_time_on_air.md` R190 to R195): the ceiling division as the least integer not below the quotient, the
values it is taken of, and that the results fit 32 bits; then O36 and O37. -/

namespace Sys2Proof.Machine

/-! ## The ceiling division (R193) -/

theorem ceilDiv_le_iff {a b q : Nat} (hb : b ≠ 0) : ceilDiv a b ≤ q ↔ a ≤ q * b := by
  have hpos := Nat.pos_of_ne_zero hb
  rw [ceilDiv_of_ne_zero a hb, Nat.div_le_iff_le_mul_add_pred hpos, Nat.mul_comm b q]
  omega

theorem le_ceilDiv_mul (a : Nat) {b : Nat} (hb : b ≠ 0) : a ≤ ceilDiv a b * b := (ceilDiv_le_iff hb).1 (Nat.le_refl _)

theorem ceilDiv_mono {a b c : Nat} (hc : c ≠ 0) (h : a ≤ b) : ceilDiv a c ≤ ceilDiv b c :=
  (ceilDiv_le_iff hc).2 (h.trans (le_ceilDiv_mul b hc))

theorem exec_timeOnAir_eq (a : AirParams) (s : State) :
    exec (.timeOnAir a) s = .next (s.output [.response (u32Bytes (timeOnAirMs a))]) := rfl

/-! ## FSK (R191) -/

/-- The bits of an FSK frame. -/
def fskBits (a : AirParams) : Nat :=
  a.preambleLen.toNat * 8 + (if a.fixLen then 0 else 8) + 24 + (a.payloadLen.toNat + (if a.crcOn then 2 else 0)) * 8

theorem toaFsk_eq {a : AirParams} (h : a.datarate ≠ 0) : toaFsk a = ceilDiv (fskBits a * 1000) a.datarate.toNat :=
  if_neg h

theorem u32_toNat_ne_zero {v : U32} (h : v ≠ 0) : v.toNat ≠ 0 := fun h0 => h (BitVec.eq_of_toNat_eq h0)

theorem fskBits_le (a : AirParams) : fskBits a ≤ 527000 := by
  have hpre := a.preambleLen.isLt
  have hlen := a.payloadLen.isLt
  have hfix : (if a.fixLen then 0 else 8) ≤ 8 := by split <;> omega
  have hcrc : (if a.crcOn then 2 else 0) ≤ 2 := by split <;> omega
  unfold fskBits
  omega

theorem toaFsk_lt (a : AirParams) : toaFsk a < 2 ^ 32 := by
  by_cases h : a.datarate = 0
  · simp [toaFsk, h]
  have hne := u32_toNat_ne_zero h
  have hbits := fskBits_le a
  rw [toaFsk_eq h]
  refine Nat.lt_of_le_of_lt (m := 527000000) ((ceilDiv_le_iff hne).2 ?_) (by decide)
  calc fskBits a * 1000 ≤ 527000000 * 1 := by omega
    _ ≤ 527000000 * a.datarate.toNat := Nat.mul_le_mul_left _ (Nat.pos_of_ne_zero hne)

/-! ## LoRa (R192) -/

/-- The numerator of the payload symbols. -/
def loraNumerator (a : AirParams) : Int :=
  a.payloadLen.toNat * 8 + (if a.crcOn then 16 else 0) - 4 * a.datarate.toNat + (if a.fixLen then 0 else 20) +
    (if 6 < a.datarate.toNat then 8 else 0)

/-- Their denominator. -/
def loraDenominator (a : AirParams) : Nat :=
  if 6 < a.datarate.toNat ∧ ldro (loraBwHz a.bandwidth) a.datarate = true then 4 * (a.datarate.toNat - 2)
  else 4 * a.datarate.toNat

/-- The symbols of a frame with `k` groups of payload symbols. -/
def loraSymbols (a : AirParams) (k : Nat) : Nat :=
  k * (a.coderate.toNat + 4) + (loraPreamble a.datarate a.preambleLen).toNat + 12 +
    (if a.datarate.toNat ≤ 6 then 2 else 0)

/-- Four times a frame's length in chips, times 1000. -/
def loraQuarterChips (a : AirParams) (k : Nat) : Nat :=
  (4 * loraSymbols a k + 1) * 2 ^ (a.datarate.toNat - 2) * 1000

theorem toaLoraSymbols_eq (a : AirParams) :
    toaLoraSymbols a = loraSymbols a (ceilDiv (loraNumerator a).toNat (loraDenominator a)) := by
  unfold toaLoraSymbols loraSymbols loraNumerator loraDenominator
  by_cases h : 6 < a.datarate.toNat <;> simp [h]

theorem toaLora_eq {a : AirParams} (h : loraInRange a.datarate a.bandwidth a.coderate = true) :
    toaLora a =
      ceilDiv (loraQuarterChips a (ceilDiv (loraNumerator a).toNat (loraDenominator a)))
        (loraBwHz a.bandwidth).toNat := by
  rw [toaLora, if_pos h, toaLoraSymbols_eq]
  rfl

theorem loraBwHz_ge (idx : U32) : 125000 ≤ (loraBwHz idx).toNat := by
  unfold loraBwHz
  split
  · decide
  · split <;> decide

theorem loraBwHz_ne_zero (idx : U32) : (loraBwHz idx).toNat ≠ 0 := by
  have := loraBwHz_ge idx
  omega

theorem loraDenominator_ne_zero {a : AirParams} (h : 5 ≤ a.datarate.toNat) : loraDenominator a ≠ 0 := by
  unfold loraDenominator
  split <;> omega

theorem loraNumerator_le (a : AirParams) : (loraNumerator a).toNat ≤ 2084 := by
  have hlen := a.payloadLen.isLt
  have hcrc : (if a.crcOn then (16 : Int) else 0) ≤ 16 := by split <;> omega
  have hfix : (if a.fixLen then (0 : Int) else 20) ≤ 20 := by split <;> omega
  have hsf : (if 6 < a.datarate.toNat then (8 : Int) else 0) ≤ 8 := by split <;> omega
  unfold loraNumerator
  omega

theorem loraSymbols_le {a : AirParams} (hcr : a.coderate.toNat ≤ 4) {k : Nat} (hk : k ≤ 2084) :
    loraSymbols a k ≤ 82300 := by
  have hpre := (loraPreamble a.datarate a.preambleLen).isLt
  have hend : (if a.datarate.toNat ≤ 6 then 2 else 0) ≤ 2 := by split <;> omega
  have hprod : k * (a.coderate.toNat + 4) ≤ 2084 * 8 := Nat.mul_le_mul hk (by omega)
  unfold loraSymbols
  omega

theorem toaLora_lt (a : AirParams) : toaLora a < 2 ^ 32 := by
  by_cases h : loraInRange a.datarate a.bandwidth a.coderate = true
  · rw [toaLora_eq h]
    obtain ⟨h5, h12, -, -, h4⟩ := (loraInRange_iff _ _ _).1 h
    have hk : ceilDiv (loraNumerator a).toNat (loraDenominator a) ≤ 2084 := by
      refine (ceilDiv_le_iff (loraDenominator_ne_zero h5)).2 ((loraNumerator_le a).trans ?_)
      exact Nat.le_mul_of_pos_right _ (Nat.pos_of_ne_zero (loraDenominator_ne_zero h5))
    have hsym := loraSymbols_le h4 hk
    refine Nat.lt_of_le_of_lt (m := 2700000) ((ceilDiv_le_iff (loraBwHz_ne_zero _)).2 ?_) (by decide)
    calc loraQuarterChips a _ ≤ (4 * 82300 + 1) * 2 ^ 10 * 1000 := by
          refine Nat.mul_le_mul_right _ (Nat.mul_le_mul (by omega) (Nat.pow_le_pow_right (by decide) (by omega)))
      _ ≤ 2700000 * 125000 := by decide
      _ ≤ 2700000 * (loraBwHz a.bandwidth).toNat := Nat.mul_le_mul_left _ (loraBwHz_ge _)
  · simp [toaLora, h]

/-! ## The answer (R190) -/

theorem timeOnAirMs_fsk {a : AirParams} (h : a.modem = 0) : (timeOnAirMs a).toNat = toaFsk a := by
  have hk : modemOf a.modem = some .fsk := by rw [h]; rfl
  simp only [timeOnAirMs, hk, BitVec.toNat_ofNat]
  exact Nat.mod_eq_of_lt (toaFsk_lt a)

theorem timeOnAirMs_lora {a : AirParams} (h : a.modem = 1) : (timeOnAirMs a).toNat = toaLora a := by
  have hk : modemOf a.modem = some .lora := by rw [h]; rfl
  simp only [timeOnAirMs, hk, BitVec.toNat_ofNat]
  exact Nat.mod_eq_of_lt (toaLora_lt a)

theorem timeOnAirMs_other {a : AirParams} (h0 : a.modem ≠ 0) (h1 : a.modem ≠ 1) : timeOnAirMs a = 0 := by
  unfold timeOnAirMs
  split
  case h_1 hk => exact absurd (modemOf_inj hk rfl) h0
  case h_2 hk => exact absurd (modemOf_inj hk rfl) h1
  all_goals rfl

theorem toaLora_of_not_inRange {a : AirParams} (h : ¬ loraInRange a.datarate a.bandwidth a.coderate = true) :
    toaLora a = 0 := if_neg h

/-- The low-data-rate case of the denominator, in the terms of R192. -/
theorem ldro_iff {sf bwHz : U32} (h12 : sf.toNat ≤ 12) :
    (6 < sf.toNat ∧ ldro bwHz sf = true) ↔
      (bwHz.toNat = 125000 ∧ 11 ≤ sf.toNat) ∨ (bwHz.toNat = 250000 ∧ sf.toNat = 12) := by
  have hsf11 : sf = 11 ↔ sf.toNat = 11 := u32_eq_iff sf (by decide)
  have hsf12 : sf = 12 ↔ sf.toNat = 12 := u32_eq_iff sf (by decide)
  have hbw1 : bwHz = 125000 ↔ bwHz.toNat = 125000 := u32_eq_iff bwHz (by decide)
  have hbw2 : bwHz = 250000 ↔ bwHz.toNat = 250000 := u32_eq_iff bwHz (by decide)
  rw [ldro_eq_decide, decide_eq_true_iff, hsf11, hsf12, hbw1, hbw2]
  omega

/-- The floor of SF5 and SF6 (R143). -/
theorem loraPreamble_toNat {sf : U32} (h : 5 ≤ sf.toNat) (n : U16) :
    (loraPreamble sf n).toNat = if sf.toNat ≤ 6 then max 12 n.toNat else n.toNat := by
  rw [loraPreamble_eq h]
  by_cases h6 : sf.toNat ≤ 6
  · by_cases hn : n.toNat < 12
    · rw [if_pos ⟨h6, hn⟩, if_pos h6, Nat.max_eq_left (by omega)]
      rfl
    · rw [if_neg (fun h => hn h.2), if_pos h6, Nat.max_eq_right (by omega)]
  · rw [if_neg (fun h => h6 h.1), if_neg h6]

theorem loraBwHz_toNat {idx : U32} (h : idx.toNat ≤ 2) :
    (loraBwHz idx).toNat = ([125000, 250000, 500000] : List Nat).getD idx.toNat 0 := by
  rw [loraBwHz_eq_getD h]
  have hcases : idx.toNat = 0 ∨ idx.toNat = 1 ∨ idx.toNat = 2 := by omega
  obtain h | h | h := hcases <;> rw [h] <;> rfl

/-- Settles O36: the answer is a ceiling division in range, and 0 elsewhere. -/
theorem timeOnAirIsTheLeastIntegerNotBelowTheQuotient :
    Obligations.TimeOnAirIsTheLeastIntegerNotBelowTheQuotient := by
  intro s a
  refine ⟨timeOnAirMs a, exec_timeOnAir_eq a s, fun hm hd => ?fskZero, fun hm hd => ?fsk, fun hm hr => ?loraRange,
    fun hm h5 h12 hbw h1 h4 => ?lora, fun hm => ?other⟩
  case fskZero =>
    apply BitVec.eq_of_toNat_eq
    rw [timeOnAirMs_fsk hm, toaFsk, if_pos hd]
    rfl
  case fsk =>
    have hne := u32_toNat_ne_zero hd
    rw [timeOnAirMs_fsk hm, toaFsk_eq hd]
    exact ⟨le_ceilDiv_mul _ hne, fun q => (ceilDiv_le_iff hne).2⟩
  case loraRange =>
    apply BitVec.eq_of_toNat_eq
    rw [timeOnAirMs_lora hm, toaLora_of_not_inRange]
    · rfl
    · rw [loraInRange_iff]
      omega
  case lora =>
    have hr := (loraInRange_iff _ _ _).2 ⟨h5, h12, hbw, h1, h4⟩
    have hcd := loraDenominator_ne_zero h5
    have hchips := toaLora_eq hr
    rw [timeOnAirMs_lora hm]
    simp only [← loraBwHz_toNat hbw, ← loraPreamble_toNat h5, ← ldro_iff h12]
    refine ⟨ceilDiv (loraNumerator a).toNat (loraDenominator a), ?_, fun q hq => ?_, ?_, fun q hq => ?_⟩
    · have h := Int.toNat_le.1 (le_ceilDiv_mul (loraNumerator a).toNat hcd)
      rw [Nat.cast_mul] at h
      exact h
    · have h : loraNumerator a ≤ (q : Int) * (loraDenominator a : Nat) := hq
      rw [← Nat.cast_mul] at h
      exact (ceilDiv_le_iff hcd).2 (Int.toNat_le.2 h)
    · rw [hchips]
      exact le_ceilDiv_mul _ (loraBwHz_ne_zero _)
    · rw [hchips]
      exact (ceilDiv_le_iff (loraBwHz_ne_zero _)).2 hq
  case other =>
    refine timeOnAirMs_other ?_ ?_ <;> rintro h <;> rw [h] at hm <;> exact absurd hm (by decide)

/-! ## Monotonicity and the floor (R195) -/

theorem toaFsk_mono {a : AirParams} {len : Byte} {pre : U16} (hlen : a.payloadLen.toNat ≤ len.toNat)
    (hpre : a.preambleLen.toNat ≤ pre.toNat) : toaFsk a ≤ toaFsk { a with payloadLen := len, preambleLen := pre } := by
  by_cases h : a.datarate = 0
  · simp [toaFsk, h]
  have hbits : fskBits a ≤ fskBits { a with payloadLen := len, preambleLen := pre } := by
    unfold fskBits
    dsimp only
    omega
  rw [toaFsk_eq h, toaFsk_eq (a := { a with payloadLen := len, preambleLen := pre }) h]
  exact ceilDiv_mono (u32_toNat_ne_zero h) (Nat.mul_le_mul_right _ hbits)

theorem loraPreamble_mono (sf : U32) {m n : U16} (h : m.toNat ≤ n.toNat) :
    (loraPreamble sf m).toNat ≤ (loraPreamble sf n).toNat := by
  have hfloor : (12 : U16).toNat = 12 := rfl
  by_cases hsf : sf = 5 ∨ sf = 6
  · simp only [loraPreamble, hsf, true_and]
    split <;> split <;> omega
  · simpa only [loraPreamble, hsf, false_and, if_false] using h

theorem toaLora_mono {a : AirParams} {len : Byte} {pre : U16} (hlen : a.payloadLen.toNat ≤ len.toNat)
    (hpre : a.preambleLen.toNat ≤ pre.toNat) :
    toaLora a ≤ toaLora { a with payloadLen := len, preambleLen := pre } := by
  by_cases h : loraInRange a.datarate a.bandwidth a.coderate = true
  · obtain ⟨h5, -⟩ := (loraInRange_iff _ _ _).1 h
    have hnum : (loraNumerator a).toNat ≤
        (loraNumerator { a with payloadLen := len, preambleLen := pre }).toNat := by
      refine Int.toNat_le_toNat ?_
      unfold loraNumerator
      dsimp only
      omega
    have hk := ceilDiv_mono (loraDenominator_ne_zero h5) hnum
    have hp := loraPreamble_mono a.datarate hpre
    rw [toaLora_eq h, toaLora_eq (a := { a with payloadLen := len, preambleLen := pre }) h]
    refine ceilDiv_mono (loraBwHz_ne_zero _) (Nat.mul_le_mul_right _ (Nat.mul_le_mul_right _ ?_))
    have hprod := Nat.mul_le_mul_right (a.coderate.toNat + 4) hk
    have hden : loraDenominator { a with payloadLen := len, preambleLen := pre } = loraDenominator a := rfl
    rw [hden]
    unfold loraSymbols
    dsimp only
    omega
  · rw [toaLora_of_not_inRange h]
    exact Nat.zero_le _

theorem timeOnAirMs_mono {a : AirParams} {len : Byte} {pre : U16} (hlen : a.payloadLen.toNat ≤ len.toNat)
    (hpre : a.preambleLen.toNat ≤ pre.toNat) :
    (timeOnAirMs a).toNat ≤ (timeOnAirMs { a with payloadLen := len, preambleLen := pre }).toNat := by
  by_cases h0 : a.modem = 0
  · rw [timeOnAirMs_fsk h0, timeOnAirMs_fsk (a := { a with payloadLen := len, preambleLen := pre }) h0]
    exact toaFsk_mono hlen hpre
  by_cases h1 : a.modem = 1
  · rw [timeOnAirMs_lora h1, timeOnAirMs_lora (a := { a with payloadLen := len, preambleLen := pre }) h1]
    exact toaLora_mono hlen hpre
  · rw [timeOnAirMs_other h0 h1]
    exact Nat.zero_le _

/-- With SF5 or SF6 a shorter preamble is taken as 12 (R143). -/
theorem toaLora_floor {a : AirParams} (hsf : a.datarate = 5 ∨ a.datarate = 6) (hpre : a.preambleLen.toNat < 12) :
    toaLora a = toaLora { a with preambleLen := 12 } := by
  have hfloor : loraPreamble a.datarate a.preambleLen = loraPreamble a.datarate 12 := by
    simp only [loraPreamble, hsf, hpre, and_self, if_true, ite_self]
  simp only [toaLora, toaLoraSymbols, hfloor]

/-- Settles O37. -/
theorem timeOnAirIsPureMonotoneAndFloored : Obligations.TimeOnAirIsPureMonotoneAndFloored := by
  intro a b
  refine ⟨timeOnAirMs a, timeOnAirMs b, fun s => ⟨exec_timeOnAir_eq a s, exec_timeOnAir_eq b s⟩,
    fun hb hlen hpre => ?mono, fun hb hm hsf hpre => ?floor⟩
  case mono =>
    rw [hb]
    exact timeOnAirMs_mono hlen hpre
  case floor =>
    have hbm : b.modem = 1 := by rw [hb]; exact hm
    apply BitVec.eq_of_toNat_eq
    rw [timeOnAirMs_lora hm, timeOnAirMs_lora hbm, hb]
    exact toaLora_floor hsf hpre

end Sys2Proof.Machine
end

section
/-! The streaming units, the BPSK encoder and the byte runs (`43_long_packet.md` R273, R274, R298; `44_bpsk_encoder.md`
R340 to R342; `20_memory.md` R74, R75): O55, O58, O59 and O60. -/

namespace Sys2Proof.Machine

/-! ## Whitening (R273, R298) -/

theorem whiteBytes_whiteBytes (r : BitVec 9) (x : List Byte) : (whiteBytes r (whiteBytes r x).1).1 = x := by
  induction x generalizing r with
  | nil => rfl
  | cons b bs ih => rw [whiteBytes, whiteBytes, ih, BitVec.xor_assoc, BitVec.xor_self, BitVec.xor_zero]

theorem whitened_whitened (l : LongPacket) (r : BitVec 9) (x : List Byte) :
    (whitened l r (whitened l r x).1).1 = x := by
  unfold whitened
  split
  · exact whiteBytes_whiteBytes r x
  · rfl

/-- The register after a run depends on the number of bytes alone. -/
theorem whiteBytes_snd_congr (r : BitVec 9) {x y : List Byte} (h : x.length = y.length) :
    (whiteBytes r x).2 = (whiteBytes r y).2 := by
  induction x generalizing r y with
  | nil => rw [List.eq_nil_of_length_eq_zero h.symm]
  | cons b bs ih =>
    obtain ⟨c, cs, rfl⟩ := List.exists_cons_of_length_eq_add_one h.symm
    exact ih _ (Nat.succ.inj h)

theorem whitened_snd_congr (l : LongPacket) (r : BitVec 9) {x y : List Byte} (h : x.length = y.length) :
    (whitened l r x).2 = (whitened l r y).2 := by
  unfold whitened
  split
  · exact whiteBytes_snd_congr r h
  · rfl

/-- An engine that whitens from the register `0x1FF`. -/
def whiteningFromOnes : LongPacket := { LongPacket.reset with whiteOn := true, whiteLfsr := 0x1FF }

/-- Settles O55; a second run over one zero byte meets another register. -/
theorem whiteningIsAnInvolutionFromOneSeed : Obligations.WhiteningIsAnInvolutionFromOneSeed := by
  refine ⟨fun l x => ?_, fun l x y h => ?_, whiteningFromOnes, [0], by decide⟩
  · rw [LongPacket.whiteRun_eq, LongPacket.whiteRun_eq]
    exact whitened_whitened l l.whiteLfsr x
  · rw [LongPacket.whiteRun_eq, LongPacket.whiteRun_eq]
    exact whitened_snd_congr l l.whiteLfsr h

/-! ## The BPSK encoder (R340) -/

theorem getLsbD_ite_or_bit (b : Bool) (x : Byte) {k : Nat} (hk : k < 8) (j : Nat) :
    (if b then x ||| (1#8 <<< k) else x).getLsbD j = (x.getLsbD j || (b && decide (j = k))) := by
  cases b
  · simp
  · by_cases hj : j = k
    · simp [hj, hk]
    · by_cases h : j < k
      · simp [hj, h]
      · have : j - k ≠ 0 := by omega
        simp [hj, this]

/-- The integrator over one byte `c`, from `o`: output bit 7 is `o`, each lower bit adds the bit of `c` above it, and the
state after the byte adds bit 0. -/
theorem bpskByte_bits (o : Bool) (c : Byte) :
    (bpskByte o c).1.getLsbD 7 = o ∧
    (∀ k, k < 7 → (bpskByte o c).1.getLsbD k = ((bpskByte o c).1.getLsbD (k + 1) ^^ c.getLsbD (k + 1))) ∧
    (bpskByte o c).2 = ((bpskByte o c).1.getLsbD 0 ^^ c.getLsbD 0) := by
  simp only [bpskByte, List.foldl_cons, List.foldl_nil, getLsbD_ite_or_bit, Nat.reduceLT]
  refine ⟨?_, fun k hk => ?_, ?_⟩
  · simp
  · interval_cases k <;> simp
  · simp

theorem bitAt_cons_of_lt (b : Byte) (bs : List Byte) {j : Nat} (h : j < 8) :
    bitAt (b :: bs) j = b.getLsbD (7 - j) := by
  rw [bitAt, Nat.div_eq_of_lt h, Nat.mod_eq_of_lt h]
  rfl

theorem bitAt_cons_add (b : Byte) (bs : List Byte) (j : Nat) : bitAt (b :: bs) (j + 8) = bitAt bs j := by
  rw [bitAt, bitAt, Nat.add_div_right j (by decide), Nat.add_mod_right]
  rfl

theorem bpskFrom_length (o : Bool) (d : List Byte) : (bpskFrom o d).length = d.length + 1 := by
  induction d generalizing o with
  | nil => rfl
  | cons b bs ih => rw [bpskFrom, List.length_cons, ih, List.length_cons]

/-- The first bit of the output is the integrator's state. -/
theorem bitAt_bpskFrom_zero (o : Bool) (d : List Byte) : bitAt (bpskFrom o d) 0 = o := by
  cases d with
  | nil => cases o <;> rfl
  | cons b bs =>
    obtain ⟨htop, -, -⟩ := bpskByte_bits o (~~~b)
    rw [bpskFrom, bitAt_cons_of_lt _ _ (by decide)]
    exact htop

/-- R340: each bit of the output adds the complement of the input bit before it. -/
theorem bitAt_bpskFrom_succ (o : Bool) (d : List Byte) {j : Nat} (hj : j < 8 * d.length) :
    bitAt (bpskFrom o d) (j + 1) = (bitAt (bpskFrom o d) j ^^ !bitAt d j) := by
  induction d generalizing o j with
  | nil => exact absurd hj (Nat.not_lt_zero j)
  | cons b bs ih =>
    obtain ⟨-, hmid, hlast⟩ := bpskByte_bits o (~~~b)
    rw [bpskFrom]
    by_cases h7 : j < 7
    · have hnext := hmid (7 - (j + 1)) (by omega)
      rw [show 7 - (j + 1) + 1 = 7 - j by omega, BitVec.getLsbD_not, decide_eq_true (by omega : 7 - j < 8),
        Bool.true_and] at hnext
      rw [bitAt_cons_of_lt _ _ (by omega : j + 1 < 8), bitAt_cons_of_lt _ _ (by omega : j < 8),
        bitAt_cons_of_lt _ _ (by omega : j < 8), hnext]
    by_cases h8 : j = 7
    · subst h8
      rw [BitVec.getLsbD_not, decide_eq_true (by decide : 0 < 8), Bool.true_and] at hlast
      rw [bitAt_cons_add _ _ 0, bitAt_bpskFrom_zero, bitAt_cons_of_lt _ _ (by decide), bitAt_cons_of_lt _ _ (by decide)]
      exact hlast
    · obtain ⟨i, rfl⟩ := Nat.exists_eq_add_of_le' (by omega : 8 ≤ j)
      rw [show i + 8 + 1 = i + 1 + 8 by omega, bitAt_cons_add, bitAt_cons_add, bitAt_cons_add]
      exact ih _ (by rw [List.length_cons] at hj; omega)

/-- The trailer holds the integrator's last state (R340). -/
theorem bpskFrom_trailer (o : Bool) (d : List Byte) :
    (bpskFrom o d).getD d.length 0 = if bitAt (bpskFrom o d) (8 * d.length) then 0xC0 else 0x20 := by
  induction d generalizing o with
  | nil => cases o <;> rfl
  | cons b bs ih =>
    rw [bpskFrom, List.length_cons, show 8 * (bs.length + 1) = 8 * bs.length + 8 by omega, bitAt_cons_add,
      List.getD_cons_succ]
    exact ih _

/-- The output byte and the state after it give the input byte back. -/
theorem bpskByte_inj {o : Bool} {c e : Byte} (h : bpskByte o c = bpskByte o e) : c = e := by
  obtain ⟨-, hmid, hlast⟩ := bpskByte_bits o c
  obtain ⟨-, hmid', hlast'⟩ := bpskByte_bits o e
  rw [← h] at hmid' hlast'
  refine BitVec.eq_of_getLsbD_eq fun k hk => ?_
  cases k with
  | zero => exact Bool.xor_right_inj.1 (hlast.symm.trans hlast')
  | succ k => exact Bool.xor_right_inj.1 ((hmid k (by omega)).symm.trans (hmid' k (by omega)))

/-- R342. -/
theorem bpskFrom_inj {o : Bool} {d e : List Byte} (h : bpskFrom o d = bpskFrom o e) : d = e := by
  induction d generalizing o e with
  | nil =>
    have hlen := congrArg List.length h
    rw [bpskFrom_length, bpskFrom_length] at hlen
    exact (List.eq_nil_of_length_eq_zero (by simpa using hlen.symm)).symm
  | cons b bs ih =>
    cases e with
    | nil =>
      have hlen := congrArg List.length h
      rw [bpskFrom_length, bpskFrom_length] at hlen
      exact absurd hlen (by simp)
    | cons c cs =>
      obtain ⟨hbyte, hrest⟩ := List.cons.inj h
      have hstate : (bpskByte o (~~~b)).2 = (bpskByte o (~~~c)).2 := by
        rw [← bitAt_bpskFrom_zero (bpskByte o (~~~b)).2 bs, hrest, bitAt_bpskFrom_zero]
      have hb : b = c := BitVec.not_inj.1 (bpskByte_inj (Prod.ext hbyte hstate))
      rw [hstate] at hrest
      rw [hb, ih hrest]

/-- Settles O58. -/
theorem bpskEncoderFollowsTheRecurrence : Obligations.BpskEncoderFollowsTheRecurrence :=
  ⟨fun d => ⟨bpskFrom_length false d, bitAt_bpskFrom_zero false d, fun _ hj => bitAt_bpskFrom_succ false d hj,
    bpskFrom_trailer false d⟩, fun _ _ h => bpskFrom_inj h⟩

/-- Settles O59, by evaluation. -/
theorem streamUnitsGiveTheSpecsCheckValues : Obligations.StreamUnitsGiveTheSpecsCheckValues := by
  unfold Obligations.StreamUnitsGiveTheSpecsCheckValues
  decide +kernel

/-! ## Byte runs (R74, R75) -/

theorem add_ofNat_eq {w : Nat} (a : BitVec w) (i : Nat) : a + BitVec.ofNat w i = BitVec.ofNat w ((a.toNat + i) % 2 ^ w) := by
  apply BitVec.eq_of_toNat_eq
  simp

theorem getElem?_range_map {α : Type} (f : Nat → α) {n i : Nat} (h : i < n) :
    ((List.range n).map f)[i]? = some (f i) := by
  simp [h]

/-- A byte of a run with its index. -/
theorem getElem?_zipIdx_map {α : Type} (f : Byte × Nat → α) {buf : List Byte} {n i : Nat} (hn : buf.length = n)
    (h : i < n) :
    (((buf.take n).zipIdx).map f)[i]? = some (f (buf.getD i 0, i)) := by
  subst hn
  simp [h, List.getElem?_zipIdx]

/-- Settles O60. -/
theorem byteRunsWrapAtTheEndOfTheirSpace : Obligations.ByteRunsWrapAtTheEndOfTheirSpace := by
  intro offset n addr buf i hlen hi
  refine ⟨?_, ?_, ?_, ?_⟩
  · rw [ringWrites, getElem?_zipIdx_map _ hlen hi, add_ofNat_eq]
    rfl
  · rw [ringReads, getElem?_range_map _ hi, add_ofNat_eq]
    rfl
  · rw [regWrites, getElem?_zipIdx_map _ hlen hi, add_ofNat_eq]
    rfl
  · rw [regReads, getElem?_range_map _ hi, add_ofNat_eq]
    rfl

end Sys2Proof.Machine
end

section
/-! The pass-through, measuring and start commands (`42_txrx_commands.md` R212 to R226, R230 to R233;
`43_long_packet.md` R288; `60_exceptions.md` R355): one equation per command, then O23, O24, O38 to O44 and O49. -/

namespace Sys2Proof.Machine

/-! ## Pass-through (R230 to R233) -/

theorem exec_write_eq (addr : U16) (data : Byte) (s : State) :
    exec (.write addr data) s = .next
      (if s.initialised = true then s.output [.ri (.write addr data), .response statusOk]
      else s.notInit statusError) := by
  simp only [exec, execWrite, State.ifInit_respError, State.respond_eq, State.ri_eq, State.output_output,
    respOk_eq_statusOk, List.singleton_append]

theorem exec_read_eq (addr : U16) (s : State) :
    exec (.read addr) s = .next
      (if s.initialised = true then
        (s.skipAnswers 1).output [.ri (.read addr), .response [(s.answer 0).setWidth 8]]
      else s.notInit [0]) := by
  simp only [exec, execRead, State.ifInit_eq, State.respond_eq]
  congr 2
  simp [State.ri_eq, State.output, State.skipAnswers, State.answerByte]

theorem exec_writeRegisters_eq (addr : U16) (n : Byte) (bytes : List Byte) (s : State) :
    exec (.writeRegisters addr n bytes) s = .next
      (if s.initialised = true then
        s.output ((if n = 0 then [] else [.ri (.writeRegisters addr bytes n)]) ++ [.response statusOk])
      else s.notInit statusError) := by
  simp only [exec, execWriteRegisters, State.ifInit_respError, State.respond_eq, respOk_eq_statusOk]
  congr 2
  split
  · rfl
  · rw [State.ri_eq, State.output_output]

theorem exec_readRegisters_eq (addr : U16) (n : Byte) (s : State) :
    exec (.readRegisters addr n) s = .next
      (if s.initialised = true then
        if n = 0 then s.output [.response []]
        else (s.skipAnswers n.toNat).output [.ri (.readRegisters addr n), .response (s.nextBytes n.toNat)]
      else s.notInit (List.replicate n.toNat 0)) := by
  simp only [exec, execReadRegisters, State.ifInit_eq, State.respond_eq]
  congr 2
  split
  · rfl
  · simp only [State.ri_eq, State.output, State.skipAnswers, List.append_assoc]
    rfl

/-- Settles O24: one equation per command. -/
theorem passThroughEmitsTheOneOperation : Obligations.PassThroughEmitsTheOneOperation :=
  fun s addr data n bytes => ⟨exec_write_eq addr data s, exec_read_eq addr s, exec_writeRegisters_eq addr n bytes s,
    exec_readRegisters_eq addr n s⟩

/-! ## Random and Rssi (R223, R224) -/

theorem exec_random_eq (s : State) :
    exec .random s = .next
      (if s.initialised = true then
        { s.fromIdle.skipAnswers 1 with
          irqQ := []
          irqMaskShadow := 0x0000
          trace := s.fromIdle.trace ++ [.ri (.setDioIrqParams 0x0000), .ri .getRandom, .response (u32Bytes (s.answer 0))] }
      else s.notInit [0, 0, 0, 0]) := by
  have hzero : u32Bytes 0 = [0, 0, 0, 0] := by decide
  have hanswer : (s.fromIdle.armIrq maskNone).answer 0 = s.answer 0 := s.fromIdle_answer 0
  simp only [exec, execRandom, State.ifInit_eq, State.abortIfBusy_eq, hanswer, hzero]
  congr 2
  simp [State.armIrq_eq, State.ri_eq, State.output, State.skipAnswers, State.respond_eq, maskNone]

theorem exec_rssi_eq (m : Byte) (s : State) :
    exec (.rssi m) s = .next
      (if s.initialised = true then
        (s.skipAnswers 1).output [.ri .getRssiInst, .response (u16Bytes ((s.answer 0).setWidth 16))]
      else s.notInit [0, 0]) := by
  have hzero : u16Bytes 0 = [0, 0] := by decide
  simp only [exec, execRssi, State.ifInit_eq, hzero]
  congr 2
  simp [State.ri_eq, State.output, State.skipAnswers, State.respond_eq, State.answerU16]

/-- Settles O23. -/
theorem randomAndRssiAnswerTheOracle : Obligations.RandomAndRssiAnswerTheOracle :=
  fun s m => ⟨exec_random_eq s, exec_rssi_eq m s⟩

/-! ## StartCad and SetTxContinuousWave (R216, R226) -/

theorem exec_startCad_eq (s : State) :
    exec .startCad s = .next
      (if s.initialised = true then
        { s.fromIdle with
          radioState := .cad
          irqQ := []
          irqMaskShadow := 0x0180
          trace := s.fromIdle.trace ++ [.ri (.setDioIrqParams 0x0180), .ri (.setSwitch s.mp.antSel .rx), .ri .setCad,
            .response statusOk] }
      else s.notInit statusError) := by
  simp only [exec, execStartCad, State.ifInit_respError, State.abortIfBusy_eq, respOk_eq_statusOk]
  refine congrArg Host.Outcome.next (if_congr Iff.rfl ?_ rfl)
  simp [State.armIrq_eq, State.ri_eq, State.output, State.setRadio, State.respond_eq, maskCad]

/-- Settles O43. -/
theorem startCadResult : Obligations.StartCadResult := exec_startCad_eq

theorem seconds_mul_eq (seconds : U16) : seconds.setWidth 32 * 1000 = BitVec.ofNat 32 (seconds.toNat * 1000) := by
  apply BitVec.eq_of_toNat_eq
  have hlt : seconds.toNat < 2 ^ 32 := seconds.isLt.trans (by decide)
  rw [BitVec.toNat_mul, BitVec.toNat_setWidth, BitVec.toNat_ofNat, Nat.mod_eq_of_lt hlt]
  rfl

/-- What an accepted `SetTxContinuousWave` does (R226). -/
theorem State.continuousWave_eq (s : State) (freq : U32) (power : Byte) (seconds : U16) :
    s.continuousWave freq power seconds =
      (let sel : Byte := (s.answer 0).setWidth 8
       let ms : U32 := BitVec.ofNat 32 (seconds.toNat * 1000)
       { s.fromIdle.skipAnswers 1 with
         radioState := .txRunning
         irqQ := []
         irqMaskShadow := 0x0000
         txTimer := ⟨true, ms⟩
         mp := { s.mp with power := power, antSel := sel }
         trace := s.fromIdle.trace ++ [.ri (.setRfFrequency freq), .ri (.setRfTxPower power), .ri (.setSwitch sel .tx),
           .ri (.setDioIrqParams 0x0000), .ri .setTxContinuousWave, .tmr (.setValue .tx ms), .tmr (.start .tx)] }) := by
  have hanswer : (s.fromIdle.output [.ri (.setRfFrequency freq)]).answer 0 = s.answer 0 := s.fromIdle_answer 0
  simp only [State.continuousWave, State.abortIfBusy_eq, State.ri_eq, State.setPower_eq, hanswer, State.armIrq_eq,
    State.tmrArm_eq, seconds_mul_eq]
  simp [State.output, State.setTimer, State.setRadio, State.skipAnswers, maskNone]

theorem exec_setTxContinuousWave_eq (freq : U32) (power : Byte) (seconds : U16) (s : State) :
    exec (.setTxContinuousWave freq power seconds) s = .next
      (if s.initialised = true then (s.continuousWave freq power seconds).output [.response statusOk]
      else s.notInit statusError) := by
  simp only [exec, execSetTxContinuousWave, State.ifInit_respError, respOk_eq_statusOk, State.respond_eq]

/-- Settles O44. -/
theorem setTxContinuousWaveResult : Obligations.SetTxContinuousWaveResult := by
  intro s freq power seconds
  rw [exec_setTxContinuousWave_eq, State.continuousWave_eq]
  simp only [State.output, List.append_assoc, List.cons_append, List.nil_append]

/-! ## Rx, RxBoosted and ReceiveLongPacket (R214, R215, R288) -/

theorem State.fromIdle_enable (s : State) : s.fromIdle.lp.enable = s.lp.enable := by
  unfold State.fromIdle; split <;> rfl

/-- A reception outside RFW mode (R214). -/
theorem State.rxStart_hardware {s : State} (h : s.lp.enable = false) (boosted : Bool) (timeout : U32) :
    s.rxStart boosted timeout =
      { s.fromIdle with
        radioState := .rxRunning
        irqQ := []
        irqMaskShadow := 0x0262
        rxTimer := if timeout = 0 then s.fromIdle.rxTimer else ⟨true, timeout⟩
        trace := s.fromIdle.trace ++ [.ri (.setDioIrqParams 0x0262)] ++ receiveOutputs s.mp.antSel boosted timeout } := by
  simp only [State.rxStart, h, Bool.false_eq_true, if_false, State.abortIfBusy_eq, State.rxLaunch_eq, State.armIrq_eq,
    State.fromIdle_mp, maskRx]

theorem State.rxStart_rfw {s : State} (h : s.lp.enable = true) (boosted : Bool) (timeout : U32) :
    s.rxStart boosted timeout = s.rfwRxStart false boosted timeout := if_pos h

/-- The engine's receive start, from the registers of an aborted operation or those of `Idle` alike (R289). -/
theorem LongPacket.receiveArm_eq (l : LongPacket) (longMode chunkCb : Bool) :
    l.receiveArm longMode chunkCb =
      { l.cleared with dir := .rx, phase := .headerPending, longMode := longMode, chunkCb := chunkCb } := rfl

/-- A reception in RFW mode (R288, R289). -/
theorem State.rfwRxStart_eq {s : State} (h : s.lp.enable = true) (long boosted : Bool) (timeout : U32) :
    s.rfwRxStart long boosted timeout =
      (let len : U16 := BitVec.ofNat 16 (lenBytesOf s.lp.lenW + s.lp.maxLen.toNat + crcBytesOf s.lp.crcW)
       { s.fromIdle with
         radioState := .rxRunning
         irqQ := []
         irqMaskShadow := 0x0208
         rxTimer := if timeout = 0 then s.fromIdle.rxTimer else ⟨true, timeout⟩
         mp := { s.mp with payloadLen := len }
         lp := { s.lp.cleared with dir := .rx, phase := .headerPending, longMode := long, chunkCb := long }
         trace := s.fromIdle.trace ++ [.ri (.setDioIrqParams 0x0208), rfwPacket s.mp len] ++
           receiveOutputs s.mp.antSel boosted timeout }) := by
  simp only [State.rfwRxStart, State.abortIfBusy_eq, LongPacket.receiveArm_eq, State.fromIdle_cleared, State.armIrq_eq,
    State.lpProgramRxLength_eq, State.rxLaunch_eq, State.setLp, State.fromIdle_mp, maskRfwRx]
  simp [LongPacket.cleared, h]

theorem exec_rx_eq (timeout : U32) (s : State) :
    exec (.rx timeout) s = .next
      (if s.initialised = true then
        if s.mp.rxValid = true then (s.rxStart false timeout).output [.response statusOk]
        else s.output [.response statusError]
      else s.notInit statusError) := by
  simp only [exec, execRx, State.ifInit_eq, respOk_eq_statusOk, respError_eq_statusError, State.respond_eq]

theorem exec_rxBoosted_eq (timeout : U32) (s : State) :
    exec (.rxBoosted timeout) s = .next
      (if s.initialised = true then
        if s.mp.rxValid = true then (s.rxStart true timeout).output [.response statusOk]
        else s.output [.response statusError]
      else s.notInit statusError) := by
  simp only [exec, execRxBoosted, State.ifInit_eq, respOk_eq_statusOk, respError_eq_statusError, State.respond_eq]

theorem exec_receiveLongPacket_eq (boosted : Bool) (timeout : U32) (chunkCb : Bool) (s : State) :
    exec (.receiveLongPacket boosted timeout chunkCb) s = .next
      (if s.initialised = true then
        if (s.mp.rxValid && s.lp.enable && chunkCb) = true then
          (s.rfwRxStart true boosted timeout).output [.response statusOk]
        else s.output [.response statusError]
      else s.notInit statusError) := by
  simp only [exec, execReceiveLongPacket, State.ifInit_eq, respOk_eq_statusOk, respError_eq_statusError,
    State.respond_eq]

/-- Settles O41. -/
theorem rxAndRxBoostedOutsideRfwMode : Obligations.RxAndRxBoostedOutsideRfwMode := by
  intro s timeout hs hv he
  rw [exec_rx_eq, exec_rxBoosted_eq, if_pos hs, if_pos hs, if_pos hv, if_pos hv, State.rxStart_hardware he,
    State.rxStart_hardware he]
  exact ⟨rfl, rfl⟩

/-- Settles O42. -/
theorem receiveStartsInRfwMode : Obligations.ReceiveStartsInRfwMode := by
  intro s timeout hs hv he
  refine ⟨?_, ?_, fun boosted => ?_⟩
  · rw [exec_rx_eq, if_pos hs, if_pos hv, State.rxStart_rfw he, State.rfwRxStart_eq he]
    rfl
  · rw [exec_rxBoosted_eq, if_pos hs, if_pos hv, State.rxStart_rfw he, State.rfwRxStart_eq he]
    rfl
  · rw [exec_receiveLongPacket_eq, if_pos hs, if_pos (by rw [hv, he]; rfl), State.rfwRxStart_eq he]
    rfl

/-! ## RxDone outside the engine (R355) -/

theorem State.endRx_eq (s : State) :
    s.endRx =
      { s with
        radioState := if s.mp.rxContinuous then s.radioState else .idle
        rxTimer := ⟨false, s.rxTimer.value⟩
        trace := s.trace ++ [.tmr (.stop .rx)] ++ (if s.mp.rxContinuous then [] else [standbyOutput]) } := by
  cases h : s.mp.rxContinuous <;>
    simp [State.endRx, h, State.tmrStop, State.setTimer, State.timer, State.emit, State.standby, State.ri, State.setRadio,
      standbyOutput]

/-- Answers counted from a later state are later answers. -/
theorem State.skipAnswers_answer (s : State) (k i : Nat) : (s.skipAnswers k).answer i = s.answer (k + i) := by
  simp [State.answer, State.skipAnswers, List.getElem?_drop, Nat.add_assoc]

theorem State.skipAnswers_skipAnswers (s : State) (a b : Nat) :
    (s.skipAnswers a).skipAnswers b = s.skipAnswers (a + b) := by
  simp [State.skipAnswers, List.drop_drop, Nat.add_assoc]

theorem State.output_skipAnswers (s : State) (os : List Output) (k : Nat) :
    (s.output os).skipAnswers k = (s.skipAnswers k).output os := rfl

theorem State.output_answer (s : State) (os : List Output) (i : Nat) : (s.output os).answer i = s.answer i := rfl

theorem State.output_nextBytes (s : State) (os : List Output) (n : Nat) : (s.output os).nextBytes n = s.nextBytes n := rfl

theorem State.skipAnswers_nextBytes (s : State) (k n : Nat) :
    (s.skipAnswers k).nextBytes n = (List.range n).map fun i => (s.answer (k + i)).setWidth 8 := by
  simp only [State.nextBytes, State.skipAnswers_answer]

/-- The reads of `RxDone` and its callback, after the timer and the mode (R355). -/
theorem State.rxDonePath_eq (s : State) :
    s.rxDonePath =
      (let n : Byte := (s.endRx.answer 0).setWidth 8
       let start : Byte := (s.endRx.answer 1).setWidth 8
       let payload := (List.range n.toNat).map fun i => (s.endRx.answer (2 + i)).setWidth 8
       (s.endRx.skipAnswers (5 + n.toNat)).output
         ([.ri .getRxBufferStatus] ++ (if n = 0 then [] else [.ri (.readBuffer start n)]) ++ [.ri .getPacketStatus] ++
           s.endRx.supplied 2 (.rxDone payload (n.setWidth 16) ((s.endRx.answer (2 + n.toNat)).setWidth 16)
             ((s.endRx.answer (3 + n.toNat)).setWidth 8)))) := by
  have hzero (n : Byte) : n.toNat = 0 ↔ n = 0 := by rw [← BitVec.toNat_inj]; rfl
  have hcallback (u : State) (p : List Byte) (n r : U16) (c : Byte) :
      u.callback (.rxDone p n r c) = u.output (u.supplied 2 (.rxDone p n r c)) := State.callback_eq _ _ 2 rfl
  simp only [State.rxDonePath, State.riRxBufferStatus, State.riReadBuffer_eq, State.riPacketStatus, State.answerByte,
    State.answerU16, hcallback, State.ri_eq, State.output_skipAnswers, State.output_output,
    State.output_answer, State.skipAnswers_skipAnswers, State.skipAnswers_answer, hzero,
    State.output_nextBytes, State.skipAnswers_nextBytes, BitVec.ofNat_toNat, BitVec.setWidth_eq, Nat.add_zero,
    Nat.add_right_comm 2 _ 3, Nat.add_right_comm 2 _ 1, Nat.reduceAdd]
  rfl

/-- Settles O49. -/
theorem rxDoneReadsThePayloadAndReportsIt : Obligations.RxDoneReadsThePayloadAndReportsIt := by
  intro s hr hd
  have hgate : s.dispatchRxDone = s.rxDonePath := if_pos ⟨hr, hd⟩
  refine (exec_instrOfEvent .rxDone s).trans ?_
  rw [State.dispatchEvent, hgate, State.rxDonePath_eq, State.endRx_eq, hr]
  simp only [State.output, State.skipAnswers, List.append_assoc]
  rfl

end Sys2Proof.Machine
end

section
/-! Send and IsChannelFree (`42_txrx_commands.md` R212, R222; `43_long_packet.md` R279), and what the start commands
refuse: O38, O39, O40 and O45. -/

namespace Sys2Proof.Machine

/-! ## The pieces of Send (R212) -/

theorem State.sendPacket_eq (s : State) (len : Nat) (record : State → PktRecord) (bytes : List Byte) :
    s.sendPacket len record bytes =
      (let u : State := { s with mp := { s.mp with payloadLen := BitVec.ofNat 16 len } }
       u.output ([.ri (.setPacketParams (record u))] ++ ringWrite 0 bytes)) := by
  simp only [State.sendPacket, State.riWriteBuffer_eq, State.ri_eq, State.output_output]
  rfl

/-- The FSK record a packet is announced with, outside and in RFW mode (R150). -/
theorem State.sendPacket_fsk (s : State) (len : Nat) (bytes : List Byte) :
    s.sendPacket len State.buildPktFsk bytes =
      { s with
        mp := { s.mp with payloadLen := BitVec.ofNat 16 len }
        trace := s.trace ++
          ([if s.lp.enable then rfwPacket s.mp (BitVec.ofNat 16 len) else fskPacket s.mp (BitVec.ofNat 16 len)] ++
            ringWrite 0 bytes) } := by
  cases h : s.lp.enable <;>
    simp [State.sendPacket_eq, State.output, State.buildPktFsk, h, rfwPacket, fskPacket]

/-- What an accepted `Send` does around its body. -/
theorem State.send_eq (s : State) (size : Byte) (data : List Byte) :
    s.send size data =
      (let u := ((s.fromIdle.armIrq maskTx).output [.ri (.setSwitch s.mp.antSel .tx)]).sendBody size data
       { u with
         radioState := .txRunning
         txTimer := ⟨true, u.mp.txTimeout⟩
         trace := u.trace ++ [.tmr (.setValue .tx u.mp.txTimeout), .tmr (.start .tx), .ri (.setTx 0)] }) := by
  simp only [State.send, State.abortIfBusy_eq, State.ri_eq, State.tmrArm_eq, State.armIrq_mp, State.fromIdle_mp]
  simp [State.setTimer, State.output, State.setRadio, txNoTimeoutTicks]

/-- The bytes a kind writes (R343). -/
def sendBytes (k : ModemKind) (data : List Byte) : List Byte := if k = .sigfoxTx then bpskEncode data else data

/-- The packet length a kind programs. -/
def sendLen (k : ModemKind) (size : Byte) : U16 := BitVec.ofNat 16 (if k = .sigfoxTx then size.toNat + 1 else size.toNat)

/-- The packet record a kind pushes (R150). -/
def sendRecord (m : ModemParams) (size : Byte) (len : U16) : Output :=
  match m.modem with
  | .lora => .ri (.setPacketParams (.lora m.preambleLen m.fixLen size m.crcOn m.iqInverted m.symbTimeout))
  | .fsk | .msk => fskPacket m len
  | .bpsk | .sigfoxTx | .sigfoxRx => .ri (.setPacketParams (.bpsk len))

theorem loraPayloadLen_ofNat (size : Byte) : loraPayloadLen (BitVec.ofNat 16 size.toNat) = size := by
  rw [BitVec.ofNat_toNat, loraPayloadLen_setWidth]

/-- The body outside RFW mode, for the kinds `Send` accepts. -/
theorem State.sendBody_hardware {s : State} (h : s.lp.enable = false) (hk : s.mp.modem ≠ .sigfoxRx) (size : Byte)
    (data : List Byte) :
    s.sendBody size data =
      { (if s.mp.modem = .sigfoxTx then s.useRadioBuffer else s) with
        mp := { s.mp with payloadLen := sendLen s.mp.modem size }
        trace := s.trace ++
          ([sendRecord s.mp size (sendLen s.mp.modem size)] ++ ringWrite 0 (sendBytes s.mp.modem data)) } := by
  unfold State.sendBody sendLen sendRecord sendBytes
  rw [if_neg (by rw [h]; decide)]
  cases hm : s.mp.modem
  case sigfoxRx => exact absurd hm hk
  case lora =>
    simp only [State.sendPacket_eq, State.buildPktLora, loraPayloadLen_ofNat]
    rfl
  case fsk | msk =>
    simp only [State.sendPacket_fsk, h]
    rfl
  all_goals
    simp only [State.sendPacket_eq]
    rfl

/-- The body in RFW mode: one whole frame (R279). -/
theorem State.sendBody_rfw {s : State} (h : s.lp.enable = true) (size : Byte) (data : List Byte) :
    s.sendBody size data =
      (let n : U16 := size.setWidth 16
       let plain := plainFrame s.lp n data
       { s.useRadioBuffer with
         mp := { s.mp with payloadLen := BitVec.ofNat 16 plain.length }
         lp := { s.lp with
           whiteLfsr := (whitened s.lp s.lp.whiteSeed plain).2
           crcLfsr := crcOver s.lp s.lp.crcSeed (lenBytes s.lp.lenW n ++ data)
           payloadLen := n, total := BitVec.ofNat 32 plain.length, remaining := 0
           bufOffset := BitVec.ofNat 8 plain.length, dir := .tx, phase := .lastChunk, longMode := false }
         trace := s.trace ++
           ([rfwPacket s.mp (BitVec.ofNat 16 plain.length)] ++ ringWrite 0 (frameBytes s.lp n data)) }) := by
  have hframe : (frameBytes s.lp (size.setWidth 16) data).length = (plainFrame s.lp (size.setWidth 16) data).length :=
    whitened_length _ _ _
  unfold State.sendBody State.sendRfw
  rw [if_pos h]
  simp only [LongPacket.frameWhole_eq, State.sendPacket_fsk, hframe]
  simp [State.setLp, State.useRadioBuffer, h]

/-! ## Which operands Send accepts -/

theorem exec_send_eq (size : Byte) (data : List Byte) (s : State) :
    exec (.send size data) s = .next
      (if s.initialised = true then
        match s.sendRefusal size with
        | some r => s.output [.response r]
        | none => (s.send size data).output [.response statusOk]
      else s.notInit statusError) := by
  simp only [exec, execSend, State.ifInit_eq, respOk_eq_statusOk, respError_eq_statusError, State.respond_eq] <;> rfl

/-- A byte never exceeds the one-byte length field. -/
theorem State.sendRefusal_eq (s : State) (size : Byte) :
    s.sendRefusal size =
      if s.mp.txValid = false then some statusError
      else if s.mp.modem = .sigfoxRx then some statusUnsupported
      else if s.lp.enable = true ∧
          (s.lp.maxLen.toNat < size.toNat ∨ 255 < lenBytesOf s.lp.lenW + size.toNat + crcBytesOf s.lp.crcW) then
        some statusError
      else if s.mp.modem = .sigfoxTx ∧ 255 < size.toNat + 1 then some statusError
      else none := by
  have hbyte : decide (255 < size.toNat) = false := by have := size.isLt; simp; omega
  simp only [State.sendRefusal, hbyte, Bool.and_false, Bool.or_false, Bool.and_eq_true, Bool.or_eq_true,
    decide_eq_true_eq, beq_iff_eq, Bool.not_eq_true', respError_eq_statusError, respUnsupported_eq_statusUnsupported]
  rfl

/-- What an accepted `Send` of a kind's bytes does outside RFW mode. -/
theorem State.send_hardware {s : State} (h : s.lp.enable = false) (hk : s.mp.modem ≠ .sigfoxRx) (size : Byte)
    (data : List Byte) :
    s.send size data =
      (let s0 := s.fromIdle
       let len := sendLen s.mp.modem size
       { (if s.mp.modem = .sigfoxTx then s0.useRadioBuffer else s0) with
         radioState := .txRunning
         irqQ := []
         irqMaskShadow := 0x0201
         txTimer := ⟨true, s.mp.txTimeout⟩
         mp := { s.mp with payloadLen := len }
         trace := s0.trace ++ [.ri (.setDioIrqParams 0x0201), .ri (.setSwitch s.mp.antSel .tx), sendRecord s.mp size len] ++
           ringWrite 0 (sendBytes s.mp.modem data) ++
           [.tmr (.setValue .tx s.mp.txTimeout), .tmr (.start .tx), .ri (.setTx 0)] }) := by
  have he : ((s.fromIdle.armIrq maskTx).output [.ri (.setSwitch s.mp.antSel .tx)]).lp.enable = false :=
    s.fromIdle_enable.trans h
  have hmp : s.fromIdle.mp = s.mp := s.fromIdle_mp
  rw [State.send_eq, State.sendBody_hardware he (hmp.symm ▸ hk)]
  simp only [State.output, State.armIrq_eq, hmp, maskTx]
  split <;> simp [State.useRadioBuffer]

/-- What an accepted `Send` does in RFW mode. -/
theorem State.send_rfw {s : State} (h : s.lp.enable = true) (size : Byte) (data : List Byte) :
    s.send size data =
      (let s0 := s.fromIdle
       let n : U16 := size.setWidth 16
       let plain := plainFrame s.lp n data
       { s0.useRadioBuffer with
         radioState := .txRunning
         irqQ := []
         irqMaskShadow := 0x0201
         txTimer := ⟨true, s.mp.txTimeout⟩
         mp := { s.mp with payloadLen := BitVec.ofNat 16 plain.length }
         lp := { s0.lp with
           whiteLfsr := (whitened s.lp s.lp.whiteSeed plain).2
           crcLfsr := crcOver s.lp s.lp.crcSeed (lenBytes s.lp.lenW n ++ data)
           payloadLen := n, total := BitVec.ofNat 32 plain.length, remaining := 0
           bufOffset := BitVec.ofNat 8 plain.length, dir := .tx, phase := .lastChunk, longMode := false }
         trace := s0.trace ++ [.ri (.setDioIrqParams 0x0201), .ri (.setSwitch s.mp.antSel .tx),
             rfwPacket s.mp (BitVec.ofNat 16 plain.length)] ++
           ringWrite 0 (frameBytes s.lp n data) ++
           [.tmr (.setValue .tx s.mp.txTimeout), .tmr (.start .tx), .ri (.setTx 0)] }) := by
  have he : ((s.fromIdle.armIrq maskTx).output [.ri (.setSwitch s.mp.antSel .tx)]).lp.enable = true :=
    s.fromIdle_enable.trans h
  have hmp : s.fromIdle.mp = s.mp := s.fromIdle_mp
  have hplain : plainFrame s.fromIdle.lp = plainFrame s.lp := by unfold State.fromIdle; split <;> rfl
  have hframe : frameBytes s.fromIdle.lp = frameBytes s.lp := by unfold State.fromIdle; split <;> rfl
  have hwhite : whitened s.fromIdle.lp s.fromIdle.lp.whiteSeed = whitened s.lp s.lp.whiteSeed := by
    unfold State.fromIdle; split <;> rfl
  have hcrc (n : U16) : crcOver s.fromIdle.lp s.fromIdle.lp.crcSeed (lenBytes s.fromIdle.lp.lenW n ++ data) =
      crcOver s.lp s.lp.crcSeed (lenBytes s.lp.lenW n ++ data) := by unfold State.fromIdle; split <;> rfl
  rw [State.send_eq, State.sendBody_rfw he]
  simp only [State.output, State.armIrq_eq, hmp, hplain, hframe, hwhite, hcrc, maskTx]
  simp [State.useRadioBuffer]

theorem exec_send_of_some {s : State} (hs : s.initialised = true) {size : Byte} {r : List Byte}
    (h : s.sendRefusal size = some r) (data : List Byte) :
    exec (.send size data) s = .next (s.output [.response r]) := by
  rw [exec_send_eq, if_pos hs, h]

theorem exec_send_of_none {s : State} (hs : s.initialised = true) {size : Byte} (h : s.sendRefusal size = none)
    (data : List Byte) : exec (.send size data) s = .next ((s.send size data).output [.response statusOk]) := by
  rw [exec_send_eq, if_pos hs, h]

theorem sendBytes_length {k : ModemKind} {size : Byte} {data : List Byte} (h : data.length = size.toNat) :
    BitVec.ofNat 16 (sendBytes k data).length = sendLen k size := by
  have hlen : (bpskEncode data).length = size.toNat + 1 := by
    rw [← h]; exact bpskFrom_length false data
  unfold sendBytes sendLen
  split
  · rw [hlen]
  · rw [h]

/-- Settles O38. -/
theorem sendOutsideRfwMode : Obligations.SendOutsideRfwMode := by
  intro s n d hd hs hv he hk hfox
  have hfox' : ¬(s.mp.modem = .sigfoxTx ∧ 255 < n.toNat + 1) := fun h => absurd (hfox h.1) (by omega)
  have hnone : s.sendRefusal n = none := by
    rw [State.sendRefusal_eq, if_neg (by simp [hv]), if_neg hk, if_neg (by simp [he]), if_neg hfox']
  rw [exec_send_of_none hs hnone, State.send_hardware he hk, ← sendBytes_length hd]
  simp only [State.output, List.append_assoc]
  rfl

/-- Settles O39. -/
theorem sendInRfwMode : Obligations.SendInRfwMode := by
  intro s n d hd hs hv he hk hfox hmax hframe
  have hfox' : ¬(s.mp.modem = .sigfoxTx ∧ 255 < n.toNat + 1) := fun h => absurd (hfox h.1) (by omega)
  have hnone : s.sendRefusal n = none := by
    rw [State.sendRefusal_eq, if_neg (by simp [hv]), if_neg hk, if_neg (by omega), if_neg hfox']
  rw [exec_send_of_none hs hnone, State.send_rfw he]
  simp only [State.output, List.append_assoc]
  rfl

/-! ## What the start commands refuse -/

theorem exec_transmitLongPacket_eq (size : U16) (timeout : U32) (chunkCb : Bool) (s : State) :
    exec (.transmitLongPacket size timeout chunkCb) s = .next
      (if s.initialised = true then
        if s.transmitLongAllowed size chunkCb = true then (s.transmitLong size timeout).output [.response statusOk]
        else s.output [.response statusError]
      else s.notInit statusError) := by
  simp only [exec, execTransmitLongPacket, State.ifInit_eq, respOk_eq_statusOk, respError_eq_statusError,
    State.respond_eq]

/-- The checks of `TransmitLongPacket` (R280). -/
theorem State.transmitLongAllowed_iff (s : State) (size : U16) (chunkCb : Bool) :
    s.transmitLongAllowed size chunkCb = true ↔
      s.mp.txValid = true ∧ s.lp.enable = true ∧ chunkCb = true ∧ size.toNat ≤ s.lp.maxLen.toNat ∧
      (s.lp.lenW = .w1 → size.toNat ≤ 255) ∧ (s.lp.lenW = .w0 → size = s.lp.fixedLen) := by
  simp [State.transmitLongAllowed, and_assoc, imp_iff_not_or]

/-- Settles O40. -/
theorem startCommandsRefuseByStatusAlone : Obligations.StartCommandsRefuseByStatusAlone := by
  intro s n d size t b c hs
  refine ⟨fun hv hk => exec_send_of_some hs ?_ d, fun i hi => ?_⟩
  · rw [State.sendRefusal_eq, if_neg (by simp [hv]), if_pos hk]
  obtain ⟨rfl, hv⟩ | ⟨rfl, hk, hlong⟩ | ⟨rfl, hk, hlong⟩ | ⟨hi, hv⟩ | ⟨rfl, hno⟩ | ⟨rfl, hno⟩ := hi
  · exact exec_send_of_some hs (by rw [State.sendRefusal_eq, if_pos hv]) d
  · refine exec_send_of_some hs ?_ d
    rw [State.sendRefusal_eq, if_neg hk, if_pos hlong, ite_self]
  · refine exec_send_of_some hs ?_ d
    have hfox : ¬ s.mp.modem = .sigfoxRx := by rw [hk]; decide
    rw [State.sendRefusal_eq, if_neg hfox, if_pos (c := _ ∧ _ < _) ⟨hk, hlong⟩, ite_self, ite_self]
  · obtain rfl | rfl := hi
    · rw [exec_rx_eq, if_pos hs, if_neg (by simp [hv])]
    · rw [exec_rxBoosted_eq, if_pos hs, if_neg (by simp [hv])]
  · have hnot : ¬ s.transmitLongAllowed size c = true := by
      rw [State.transmitLongAllowed_iff]
      rintro ⟨hv, he, hc, hmax, h1, h0⟩
      simp only [hv, he, hc, Bool.true_eq_false, false_or] at hno
      obtain hno | ⟨hw, hno⟩ | ⟨hw, hno⟩ := hno
      · omega
      · exact absurd (h1 hw) (by omega)
      · exact hno (h0 hw)
    rw [exec_transmitLongPacket_eq, if_pos hs, if_neg hnot]
  · have hnot : ¬ (s.mp.rxValid && s.lp.enable && c) = true := by
      obtain h | h | h := hno <;> simp [h]
    rw [exec_receiveLongPacket_eq, if_pos hs, if_neg hnot]

/-! ## IsChannelFree (R222) -/

/-- The pairs of a history polled before the time is up. -/
def sensePolled (bound : U32) (run : List (U32 × U16)) : List (U32 × U16) :=
  run.takeWhile fun p => decide (p.1.toNat < bound.toNat)

/-- The pairs of a history before the first sample above the threshold. -/
def senseQuiet (thresh : U16) (run : List (U32 × U16)) : List (U32 × U16) :=
  run.takeWhile fun p => decide (p.2.toInt ≤ thresh.toInt)

/-- A sample above the threshold comes before the time is up. -/
def senseBusy (bound : U32) (thresh : U16) (run : List (U32 × U16)) : Bool :=
  decide ((senseQuiet thresh (sensePolled bound run)).length < (sensePolled bound run).length)

/-- What the polling of a history emits. -/
def senseOutputs (t0 bound : U32) (thresh : U16) (run : List (U32 × U16)) : List Output :=
  (senseQuiet thresh (sensePolled bound run)).flatMap (fun _ => [.tmr (.getElapsedTime t0), .ri .getRssiInst]) ++
    if senseBusy bound thresh run then [.tmr (.getElapsedTime t0), .ri .getRssiInst] else [.tmr (.getElapsedTime t0)]

/-- The polling stops at the first sample above the threshold, or when the time is up. -/
theorem State.senseLoop_eq (t0 bound : U32) (thresh : U16) (run : List (U32 × U16)) (s : State) :
    State.senseLoop t0 bound thresh run s =
      (!senseBusy bound thresh run, s.output (senseOutputs t0 bound thresh run)) := by
  induction run generalizing s with
  | nil => rfl
  | cons p rest ih =>
    by_cases htime : bound.toNat ≤ p.1.toNat
    · have hpolled : sensePolled bound (p :: rest) = [] := by simp [sensePolled, htime]
      rw [State.senseLoop, if_pos htime, senseOutputs, senseBusy, hpolled]
      rfl
    have hpolled : sensePolled bound (p :: rest) = p :: sensePolled bound rest := by
      simp [sensePolled, Nat.lt_of_not_le htime]
    rw [State.senseLoop, if_neg htime]
    by_cases hloud : thresh.slt p.2 = true
    · have hlt : thresh.toInt < p.2.toInt := BitVec.slt_iff_toInt_lt.1 hloud
      have hquiet : senseQuiet thresh (p :: sensePolled bound rest) = [] := by
        simp [senseQuiet, hlt]
      rw [if_pos hloud, senseOutputs, senseBusy, hpolled, hquiet]
      simp [State.ri, State.emit, State.output]
    · have hle : p.2.toInt ≤ thresh.toInt := Int.not_lt.1 fun h => hloud (BitVec.slt_iff_toInt_lt.2 h)
      have hquiet : senseQuiet thresh (p :: sensePolled bound rest) = p :: senseQuiet thresh (sensePolled bound rest) := by
        simp [senseQuiet, hle]
      have hbusy : senseBusy bound thresh (p :: rest) = senseBusy bound thresh rest := by
        simp [senseBusy, hpolled, hquiet]
      have hout : senseOutputs t0 bound thresh (p :: rest) =
          [.tmr (.getElapsedTime t0), .ri .getRssiInst] ++ senseOutputs t0 bound thresh rest := by
        simp [senseOutputs, hbusy, hpolled, hquiet]
      rw [if_neg hloud, ih, hbusy, hout]
      simp [State.ri, State.emit, State.output]

/-- The whole sensing: the dummy configuration, then the polling (R222). -/
theorem State.sense_eq (s : State) (freq bw : U32) (thresh : U16) (bound : U32) :
    s.sense freq bw thresh bound =
      (!senseBusy bound thresh s.senseRun,
        (let u := s.rxConfigFsk (senseConfig bw)
         { u with
           irqQ := []
           irqMaskShadow := 0x0000
           env := { s.env with
             answers := s.env.answers.drop 1, senseRuns := s.env.senseRuns.drop 1, draws := s.env.draws + 2 }
           trace := u.trace ++ [.ri (.setRfFrequency freq), .ri (.setDioIrqParams 0x0000), .ri (.setSwitch s.mp.antSel .rx),
               .ri (.setRx 0xFFFFFF), .tmr .getCurrentTime] ++
             senseOutputs (s.answer 0) bound thresh s.senseRun ++ [standbyOutput] })) := by
  simp only [State.sense, State.senseSetup, State.senseLoop_eq, State.rxConfigFsk_eq, State.armIrq_eq, State.ri_eq]
  simp only [State.output, State.configured, State.emit, State.standby, State.skipAnswers, State.skipSenseRun,
    State.ri_eq, List.append_assoc]
  rfl

theorem exec_isChannelFree_eq (freq bw : U32) (thresh : U16) (bound : U32) (s : State) :
    exec (.isChannelFree freq bw thresh bound) s = .next
      (if s.initialised = true then
        (s.sense freq bw thresh bound).2.output [.response [if (s.sense freq bw thresh bound).1 then 1 else 0]]
      else s.notInit [0]) := by
  simp only [exec, execIsChannelFree, State.ifInit_eq, State.respond_eq, respBool_eq]
  rfl

/-- Settles O45. -/
theorem isChannelFreePollsUntilASampleExceedsTheThreshold :
    Obligations.IsChannelFreePollsUntilASampleExceedsTheThreshold := by
  intro s freq bw thresh bound hs
  refine ⟨s.rxConfigFsk (senseConfig bw), exec_setRxConfig_fsk hs rfl (show (600 : U32) ≠ 0 by decide), ?_⟩
  have hbusy : (if (!senseBusy bound thresh s.senseRun) = true then (1 : Byte) else 0) =
      if senseBusy bound thresh s.senseRun = true then 0 else 1 := by
    cases senseBusy bound thresh s.senseRun <;> rfl
  rw [exec_isChannelFree_eq, if_pos hs, State.sense_eq, hbusy]
  simp only [State.output, senseOutputs, List.append_assoc]
  rfl

end Sys2Proof.Machine
end

section
/-! The chunk rules of the long-packet engine (`43_long_packet.md` R280 to R294): O51 to O54. -/

namespace Sys2Proof.Machine

/-! ## What an abort leaves of the engine -/

theorem State.fromIdle_cases (s : State) : s.fromIdle = s ∨ s.fromIdle = s.aborted := by
  unfold State.fromIdle
  split
  · exact .inl rfl
  · exact .inr rfl

/-! ## Transmit chunks (R280 to R282) -/

/-- The plain bytes of a transmit chunk before its trailer: the length field in the first, then payload. -/
def LongPacket.chunkBody (l : LongPacket) (first : Bool) (d : List Byte) : List Byte :=
  (if first then lenBytes l.lenW l.payloadLen else []) ++ d

/-- The plain bytes of a transmit chunk. -/
def LongPacket.chunkPlain (l : LongPacket) (first last : Bool) (d : List Byte) : List Byte :=
  l.chunkBody first d ++ if last then trailerOf l (crcOver l l.crcLfsr (l.chunkBody first d)) else []

theorem remaining_eq_zero_iff {r : U16} {n : Nat} (h : n ≤ r.toNat) : r - BitVec.ofNat 16 n = 0 ↔ n = r.toNat := by
  have := r.isLt
  rw [← BitVec.toNat_inj, BitVec.toNat_sub_of_le (by simp [BitVec.le_def]; omega)]
  simp
  omega

/-- A chunk of no more than the payload that remains gets the trailer exactly when it is the last (R281). -/
theorem LongPacket.txChunk_of_le {l : LongPacket} {d : List Byte} (h : d.length ≤ l.remaining.toNat) (first : Bool) :
    l.txChunk first d =
      (let w := whitened l l.whiteLfsr (l.chunkPlain first (decide (d.length = l.remaining.toNat)) d)
       (w.1,
         { l with
           whiteLfsr := w.2, crcLfsr := crcOver l l.crcLfsr (l.chunkBody first d)
           remaining := l.remaining - BitVec.ofNat 16 d.length })) := by
  rw [LongPacket.txChunk_eq]
  simp only [remaining_eq_zero_iff h, LongPacket.chunkPlain, LongPacket.chunkBody, decide_eq_true_eq]
  by_cases hlast : d.length = l.remaining.toNat <;> simp only [hlast, if_true, if_false, List.append_nil]

/-- A transmit chunk of no more than the payload that remains (R281). -/
theorem State.lpTxChunk_of_le {s : State} {n : Nat} (h : n ≤ s.lp.remaining.toNat) (first : Bool) :
    s.lpTxChunk first n =
      (let last := decide (n = s.lp.remaining.toNat)
       let plain := s.lp.chunkPlain first last (s.nextBytes n)
       let w := whitened s.lp s.lp.whiteLfsr plain
       let ms := lpChunkMs plain.length s.lp.bitrate
       { (s.skipAnswers n).useRadioBuffer with
         chunkTimer := if last then s.chunkTimer else ⟨true, ms⟩
         lp := { s.lp with
           whiteLfsr := w.2, crcLfsr := crcOver s.lp s.lp.crcLfsr (s.lp.chunkBody first (s.nextBytes n))
           phase := if last then .lastChunk else .streaming
           remaining := s.lp.remaining - BitVec.ofNat 16 n, bufOffset := s.lp.bufOffset + BitVec.ofNat 8 plain.length }
         trace := s.trace ++ (if n = 0 then [] else [.cb (.getNextChunk (BitVec.ofNat 16 n))]) ++
           ringWrite s.lp.bufOffset w.1 ++
           (if last then [] else [.tmr (.setValue .chunk ms), .tmr (.start .chunk)]) }) := by
  have hlast : decide (s.lp.remaining - BitVec.ofNat 16 n = 0) = decide (n = s.lp.remaining.toNat) :=
    decide_eq_decide.2 (remaining_eq_zero_iff h)
  rw [State.lpTxChunk_eq, LongPacket.txChunk_of_le ((s.nextBytes_length n).symm ▸ h)]
  simp only [State.nextBytes_length, whitened_length, hlast]

theorem State.txChunkExpiry_eq (s : State) :
    s.txChunkExpiry = s.lpTxChunk false (min 128 s.lp.remaining.toNat) := rfl

theorem exec_expireChunkTimer_of_transmit {s : State} (harmed : s.chunkTimer.armed = true)
    (hr : s.radioState = .txRunning) (hd : s.lp.dir = .tx) (hp : s.lp.phase = .streaming) :
    exec .expireChunkTimer s = .next (s.tmrExpired .chunk).txChunkExpiry := by
  rw [exec_expireChunkTimer_of_armed harmed]
  exact congrArg Host.Outcome.next (if_pos ⟨hr, hd, hp⟩)

/-- Settles O52. -/
theorem chunkExpiryWritesTheNextTransmitChunk : Obligations.ChunkExpiryWritesTheNextTransmitChunk := by
  intro s harmed hr hd hp
  have hle : min 128 s.lp.remaining.toNat ≤ (s.tmrExpired .chunk).lp.remaining.toNat := Nat.min_le_right _ _
  rw [exec_expireChunkTimer_of_transmit harmed hr hd hp, State.txChunkExpiry_eq]
  exact congrArg Host.Outcome.next (State.lpTxChunk_of_le hle false)

/-! ## The first chunk (R280) -/

/-- The payload bytes of the first write. -/
def firstLen (l : LongPacket) (size : U16) : Nat :=
  if lenBytesOf l.lenW + size.toNat + crcBytesOf l.crcW ≤ 255 then size.toNat
  else 255 - lenBytesOf l.lenW - crcBytesOf l.crcW

theorem frameLength_lt (l : LongPacket) (size : U16) : lenBytesOf l.lenW + size.toNat + crcBytesOf l.crcW < 2 ^ 32 := by
  have := size.isLt
  have hlen : lenBytesOf l.lenW ≤ 2 := by cases l.lenW <;> decide
  have hcrc : crcBytesOf l.crcW ≤ 2 := by cases l.crcW <;> decide
  omega

theorem firstChunkLen_txStart (l : LongPacket) (size : U16) : firstChunkLen (l.txStart size) size = firstLen l size := by
  have := frameLength_lt l size
  have htotal : (l.txStart size).total.toNat = lenBytesOf l.lenW + size.toNat + crcBytesOf l.crcW := by
    simp only [LongPacket.txStart, BitVec.toNat_ofNat]
    exact Nat.mod_eq_of_lt this
  rw [firstChunkLen, htotal]
  rfl

theorem firstLen_le (l : LongPacket) (size : U16) : firstLen l size ≤ size.toNat := by
  unfold firstLen
  split <;> omega

theorem LongPacket.txStart_chunkBody (l : LongPacket) (size : U16) (d : List Byte) :
    (l.txStart size).chunkBody true d = lenBytes l.lenW size ++ d := rfl

theorem LongPacket.txStart_chunkPlain (l : LongPacket) (size : U16) (last : Bool) (d : List Byte) :
    (l.txStart size).chunkPlain true last d =
      lenBytes l.lenW size ++ d ++
        if last then trailerOf l (crcOver l l.crcSeed (lenBytes l.lenW size ++ d)) else [] := rfl

theorem LongPacket.txStart_streams (l : LongPacket) (size : U16) :
    whitened (l.txStart size) = whitened l ∧ crcOver (l.txStart size) = crcOver l := ⟨rfl, rfl⟩

theorem LongPacket.txStart_bufOffset_add (l : LongPacket) (size : U16) (x : Byte) :
    (l.txStart size).bufOffset + x = x := BitVec.zero_add x

/-- A transmission up to its first chunk. -/
def State.transmitReady (s : State) (size : U16) : State :=
  let len : U16 := BitVec.ofNat 16 (lenBytesOf s.lp.lenW + size.toNat + crcBytesOf s.lp.crcW)
  { s with
    irqQ := []
    irqMaskShadow := 0x0201
    lp := s.lp.txStart size
    mp := { s.mp with payloadLen := len }
    trace := s.trace ++ [.ri (.setDioIrqParams 0x0201), .ri (.setSwitch s.mp.antSel .tx), rfwPacket s.mp len] }

theorem State.transmitLong_eq {s : State} (h : s.lp.enable = true) (size : U16) (timeout : U32) :
    s.transmitLong size timeout =
      (let u := (s.fromIdle.transmitReady size).lpTxChunk true (firstLen s.fromIdle.lp size)
       { u with
         radioState := .txRunning
         txTimer := ⟨true, timeout⟩
         trace := u.trace ++ [.tmr (.setValue .tx timeout), .tmr (.start .tx), .ri (.setTx 0)] }) := by
  have hready (u : State) (hu : u.lp.enable = true) :
      (let s := (u.setLp (u.lp.txStart size)).armIrq maskTx
       let s := s.ri (.setSwitch s.mp.antSel .tx)
       let s := s.setMp { s.mp with payloadLen := s.lp.total.setWidth 16 }
       s.ri (.setPacketParams s.buildPktFsk)) = u.transmitReady size := by
    simp [State.transmitReady, State.armIrq_eq, State.setLp, State.setMp, State.ri, State.emit, State.buildPktFsk,
      LongPacket.txStart, LongPacket.seed, hu, rfwPacket, maskTx]
  have hu : s.fromIdle.lp.enable = true := s.fromIdle_enable.trans h
  simp only [State.transmitLong, State.abortIfBusy_eq]
  rw [← hready _ hu, ← firstChunkLen_txStart]
  simp only [State.tmrArm_eq, State.ri_eq]
  simp [State.setTimer, State.output, State.setRadio, txNoTimeoutTicks]

/-- Settles O51. -/
theorem transmitLongPacketWritesTheFirstChunk : Obligations.TransmitLongPacketWritesTheFirstChunk := by
  intro s size timeout hs hv he hmax h1 h0
  have hallowed : s.transmitLongAllowed size true = true :=
    (s.transmitLongAllowed_iff size true).2 ⟨hv, he, rfl, hmax, h1, h0⟩
  have hle : firstLen s.fromIdle.lp size ≤ (s.fromIdle.transmitReady size).lp.remaining.toNat := firstLen_le _ _
  rw [exec_transmitLongPacket_eq, if_pos hs, if_pos hallowed, State.transmitLong_eq he, State.lpTxChunk_of_le hle]
  obtain h | h := s.fromIdle_cases <;>
  · simp only [State.output, h, State.transmitReady, LongPacket.txStart_chunkPlain, LongPacket.txStart_chunkBody,
      LongPacket.txStart_streams, LongPacket.txStart_bufOffset_add, List.append_assoc]
    rfl

/-! ## The header procedure (R290) -/

/-- The length a plain header of the engine's width stands for, most significant byte first. -/
theorem headerLen_eq {w : LenWidth} {h : List Byte} (hw : lenBytesOf w ≠ 0) (hlen : h.length = lenBytesOf w) :
    headerLen h = if w = .w1 then (h.getD 0 0).setWidth 16 else h.getD 0 0 ++ h.getD 1 0 := by
  cases w with
  | w0 => exact absurd rfl hw
  | w1 => obtain ⟨b, rfl⟩ := List.length_eq_one_iff.1 hlen; rfl
  | w2 => obtain ⟨b, c, rfl⟩ := List.length_eq_two.1 hlen; rfl

/-- The header procedure without a length field: the fixed length at once. -/
theorem State.lpHeader_of_noLength {s : State} (h : lenBytesOf s.lp.lenW = 0) :
    s.lpHeader = (s.setLp s.lp.seed).lpAcceptLength s.lp.fixedLen := if_pos h

/-- A header that does not arrive in time. -/
theorem State.lpHeader_of_silent {s : State} (h : lenBytesOf s.lp.lenW ≠ 0) (hp : (s.answer 0).getLsbD 0 = false) :
    s.lpHeader =
      (((s.setLp s.lp.seed).ri (.pollRxBytes (BitVec.ofNat 8 (lenBytesOf s.lp.lenW))
        (lpHeaderWaitMs (lenBytesOf s.lp.lenW) s.lp.bitrate))).skipAnswers 1).lpRxFail .rxTimeout :=
  (if_neg h).trans (if_neg (c := (s.answer 0).getLsbD 0 = true) (by rw [hp]; decide))

/-- A header that arrives is read, whitened back and taken into the CRC. -/
theorem State.lpHeader_of_arrived {s : State} (h : lenBytesOf s.lp.lenW ≠ 0) (hp : (s.answer 0).getLsbD 0 = true) :
    s.lpHeader =
      (let u := (((s.setLp s.lp.seed).ri (.pollRxBytes (BitVec.ofNat 8 (lenBytesOf s.lp.lenW))
          (lpHeaderWaitMs (lenBytesOf s.lp.lenW) s.lp.bitrate))).skipAnswers 1).riReadBuffer 0 (lenBytesOf s.lp.lenW)
       let r := s.lp.seed.rxHeader u.1
       (u.2.setLp r.2).lpAcceptLength r.1) :=
  (if_neg h).trans (if_pos (c := (s.answer 0).getLsbD 0 = true) hp)

theorem exec_irqSyncWordValid_of_pending {s : State} (hr : s.radioState = .rxRunning) (hd : s.lp.dir = .rx)
    (hp : s.lp.phase = .headerPending) : exec .irqSyncWordValid s = .next s.lpHeader :=
  congrArg Host.Outcome.next (if_pos ⟨hr, hd, hp⟩)

/-- Settles O53. -/
theorem syncWordValidRunsTheHeaderProcedure : Obligations.SyncWordValidRunsTheHeaderProcedure := by
  intro s hr hd hp w seeded accept
  rw [exec_irqSyncWordValid_of_pending hr hd hp]
  refine ⟨fun hw => ?none, fun hw => ⟨fun hpoll => ?silent, fun hpoll => ?arrived⟩⟩
  case none => rw [State.lpHeader_of_noLength hw, State.lpAcceptLength_eq]; rfl
  case silent => rw [State.lpHeader_of_silent hw hpoll, State.lpRxFail_eq _ _ 3 rfl]; rfl
  case arrived =>
    have hlen (l : LongPacket) (u : State) (h0 : l.lenW = s.lp.lenW) :
        (whitened l l.whiteLfsr (u.nextBytes (lenBytesOf s.lp.lenW))).1.length = lenBytesOf s.lp.lenW := by simp
    rw [State.lpHeader_of_arrived hw hpoll, State.riReadBuffer_eq, if_neg hw]
    simp only [LongPacket.rxHeader, LongPacket.whiteRun_eq, LongPacket.crcRun_eq, State.lpAcceptLength_eq]
    rw [headerLen_eq hw (by simp)]
    rfl

/-! ## Receive chunks (R292) -/

theorem exec_expireChunkTimer_of_receive {s : State} (harmed : s.chunkTimer.armed = true)
    (hr : s.radioState = .rxRunning) (hd : s.lp.dir = .rx) (hp : s.lp.phase = .streaming ∨ s.lp.phase = .lastChunk) :
    exec .expireChunkTimer s = .next (s.tmrExpired .chunk).rxChunkExpiry := by
  have htx : ¬(s.radioState = .txRunning ∧ s.lp.dir = .tx ∧ s.lp.phase = .streaming) := by simp [hr]
  rw [exec_expireChunkTimer_of_armed harmed]
  exact congrArg Host.Outcome.next ((if_neg htx).trans (if_pos ⟨hr, hd, hp⟩))

/-- The payload bytes and the ring bytes of the chunk due next. -/
def LongPacket.chunkPayload (l : LongPacket) : Nat := if decide (l.phase = .lastChunk) then l.remaining.toNat else 128

def LongPacket.chunkBytes (l : LongPacket) : Nat :=
  if decide (l.phase = .lastChunk) then l.chunkPayload + crcBytesOf l.crcW else l.chunkPayload

theorem LongPacket.chunkBytes_of_last {l : LongPacket} (h : l.phase = .lastChunk) :
    l.chunkPayload = l.remaining.toNat ∧ l.chunkBytes = l.remaining.toNat + crcBytesOf l.crcW := by
  simp [LongPacket.chunkPayload, LongPacket.chunkBytes, h]

theorem LongPacket.chunkBytes_of_streaming {l : LongPacket} (h : l.phase = .streaming) :
    l.chunkPayload = 128 ∧ l.chunkBytes = 128 := by
  simp [LongPacket.chunkPayload, LongPacket.chunkBytes, h]

/-- The state after the read of a receive chunk: whitened back, its payload in the CRC. -/
def State.chunkRead (s : State) : State :=
  let b := (whitened s.lp s.lp.whiteLfsr (s.nextBytes s.lp.chunkBytes))
  { s.skipAnswers s.lp.chunkBytes with
    lp := { s.lp with
      bufOffset := s.lp.bufOffset + BitVec.ofNat 8 s.lp.chunkBytes, whiteLfsr := b.2
      crcLfsr := crcOver s.lp s.lp.crcLfsr (b.1.take s.lp.chunkPayload) }
    trace := s.trace ++
      if s.lp.chunkBytes = 0 then [] else [.ri (.readBuffer s.lp.bufOffset (BitVec.ofNat 8 s.lp.chunkBytes))] }

/-- The plain bytes of the chunk due next. -/
def State.chunkBuffer (s : State) : List Byte := (whitened s.lp s.lp.whiteLfsr (s.nextBytes s.lp.chunkBytes)).1

theorem State.rxChunkExpiry_eq (s : State) :
    s.rxChunkExpiry =
      s.chunkRead.rxChunkStore (decide (s.lp.phase = .lastChunk)) s.lp.chunkPayload s.chunkBuffer := by
  have hbeq : (s.lp.phase == .lastChunk) = decide (s.lp.phase = .lastChunk) := rfl
  unfold State.rxChunkExpiry
  simp only [hbeq, State.riReadBuffer_eq, LongPacket.rxChunk_eq]
  rfl

theorem LongPacket.chunkPayload_le (l : LongPacket) : l.chunkPayload ≤ l.chunkBytes := by
  unfold LongPacket.chunkBytes
  split <;> omega

/-- A chunk that does not fit the staging buffer ends the reception (R292). -/
theorem State.rxChunkStore_full {s : State} {n : Nat} (h : 255 ≤ s.lp.rxPayloadOffset.toNat + n) (final : Bool)
    (b : List Byte) : s.rxChunkStore final n b = s.receiveEnded 4 .rxError :=
  (if_pos h).trans (s.lpRxFail_eq .rxError 4 rfl)

/-- The trailer of the last chunk is what its payload leaves. -/
theorem State.chunkRead_drop_length (s : State) (h : decide (s.lp.phase = .lastChunk) = true) :
    (s.chunkBuffer.drop s.lp.chunkPayload).length = crcBytesOf s.chunkRead.lp.crcW := by
  obtain ⟨hpayload, hbytes⟩ := LongPacket.chunkBytes_of_last (of_decide_eq_true h)
  simp [State.chunkBuffer, hpayload, hbytes, State.chunkRead]

/-- The state after a receive chunk is staged, and delivered in long mode. -/
def State.chunkStaged (s : State) : State :=
  let n := s.lp.chunkPayload
  let off := s.lp.rxPayloadOffset.toNat
  let stage := s.rxStage.take off ++ s.chunkBuffer.take n ++ s.rxStage.drop (off + n)
  let stored := s.lp.rxPayloadOffset + BitVec.ofNat 16 n
  let deliver := decide (s.lp.longMode = true ∧ 0 < n)
  { s.chunkRead with
    rxStage := stage
    lp := { s.chunkRead.lp with
      rxPayloadOffset := if deliver then 0 else stored, remaining := s.lp.remaining - BitVec.ofNat 16 n }
    trace := s.chunkRead.trace ++
      if deliver && s.lp.chunkCb then [.cb (.storeChunk (stage.take stored.toNat) stored)] else [] }

/-- The trailer of the last chunk is the one its payload gives. -/
def State.chunkTrailerOk (s : State) : Bool :=
  decide (s.chunkBuffer.drop s.lp.chunkPayload =
    trailerOf s.lp (crcOver s.lp s.lp.crcLfsr (s.chunkBuffer.take s.lp.chunkPayload)))

theorem State.chunkBuffer_take_length (s : State) : (s.chunkBuffer.take s.lp.chunkPayload).length = s.lp.chunkPayload := by
  rw [List.length_take, State.chunkBuffer, whitened_length, State.nextBytes_length]
  exact Nat.min_eq_left s.lp.chunkPayload_le

theorem State.rxChunkExpiry_of_full {s : State} (h : 255 ≤ s.lp.rxPayloadOffset.toNat + s.lp.chunkPayload) :
    s.rxChunkExpiry = s.chunkRead.receiveEnded 4 .rxError := by
  rw [State.rxChunkExpiry_eq, State.rxChunkStore_full (s := s.chunkRead) h]

/-- A chunk that fits is staged; then comes the next, or the end of the packet (R292). -/
theorem State.rxChunkExpiry_of_fit {s : State} (h : s.lp.rxPayloadOffset.toNat + s.lp.chunkPayload < 255) :
    s.rxChunkExpiry =
      if s.lp.phase = .lastChunk then
        if s.chunkTrailerOk = true then s.chunkStaged.receiveDone else s.chunkStaged.receiveEnded 4 .rxError
      else s.chunkStaged.chunkScheduled := by
  have hstage : stageWrite s.chunkRead.rxStage s.chunkRead.lp.rxPayloadOffset.toNat
      (s.chunkBuffer.take s.lp.chunkPayload) =
        s.rxStage.take s.lp.rxPayloadOffset.toNat ++ s.chunkBuffer.take s.lp.chunkPayload ++
          s.rxStage.drop (s.lp.rxPayloadOffset.toNat + s.lp.chunkPayload) := by
    rw [stageWrite, State.chunkBuffer_take_length]
    rfl
  have htrailer : s.chunkBuffer.drop s.lp.chunkPayload = trailerOf s.chunkRead.lp s.chunkRead.lp.crcLfsr ↔
      s.chunkTrailerOk = true := decide_eq_true_iff.symm
  rw [State.rxChunkExpiry_eq, State.rxChunkStore_eq s.chunkRead _ _ _ h s.chunkRead_drop_length, hstage]
  by_cases hlast : s.lp.phase = .lastChunk
  · by_cases hok : s.chunkTrailerOk = true
    · rw [if_pos (decide_eq_true hlast), if_pos hlast, if_pos hok, if_pos (htrailer.2 hok)]
      rfl
    · rw [if_pos (decide_eq_true hlast), if_pos hlast, if_neg hok, if_neg (htrailer.not.2 hok)]
      rfl
  · rw [if_neg (by simp [hlast]), if_neg hlast]
    rfl

/-- Settles O54. -/
theorem chunkExpiryReadsTheNextReceiveChunk : Obligations.ChunkExpiryReadsTheNextReceiveChunk := by
  intro s harmed hr hd hp final n m b crc off stage stored deliver read staged
  rw [exec_expireChunkTimer_of_receive harmed hr hd hp]
  refine ⟨fun hfull => ?_, fun hfit hstream => ?_, fun hfit hlast hcrc => ?_, fun hfit hlast hcrc => ?_⟩
  · exact congrArg _ (State.rxChunkExpiry_of_full (s := s.tmrExpired .chunk) (Nat.not_lt.1 hfull))
  · have hphase : ¬ s.lp.phase = .lastChunk := by rw [hstream]; decide
    exact congrArg _ ((State.rxChunkExpiry_of_fit (s := s.tmrExpired .chunk) hfit).trans (if_neg hphase))
  · exact congrArg _ ((State.rxChunkExpiry_of_fit (s := s.tmrExpired .chunk) hfit).trans
      ((if_pos hlast).trans (if_neg (decide_eq_true_iff.not.2 hcrc))))
  · exact congrArg _ ((State.rxChunkExpiry_of_fit (s := s.tmrExpired .chunk) hfit).trans
      ((if_pos hlast).trans (if_pos (decide_eq_true_iff.2 hcrc))))

end Sys2Proof.Machine
end

section
/-! What an instruction can do: the ways a command ends and the ways an event or an expiry ends, with what each
presupposes. The properties of every step (O3, O5 to O8, O17, O18) are case splits over these lists. -/

namespace Sys2Proof.Machine

/-! ## Outputs that neither answer nor end anything -/

/-- A Register Interface or Timer Service operation the block may emit: any but `RI.GetOperatingMode` (R83). -/
def Output.isPlain : Output → Bool
  | .ri .getOperatingMode => false
  | .ri _ => true
  | .tmr _ => true
  | .cb _ => false
  | .response _ => false

/-- A plain operation or a chunk callback. -/
def Output.isQuiet : Output → Bool
  | .cb (.getNextChunk _) => true
  | .cb (.storeChunk _ _) => true
  | o => o.isPlain

theorem Output.isQuiet_of_isPlain {o : Output} (h : o.isPlain = true) : o.isQuiet = true := by
  cases o with
  | ri op => exact h
  | tmr op => exact h
  | cb c => cases h
  | response r => cases h

theorem ringWrite_plain (offset : Byte) (bytes : List Byte) : (ringWrite offset bytes).all Output.isPlain = true := by
  unfold ringWrite
  split <;> rfl

theorem receiveOutputs_plain (antSel : Byte) (boosted : Bool) (timeout : U32) :
    (receiveOutputs antSel boosted timeout).all Output.isPlain = true := by
  unfold receiveOutputs
  split <;> cases boosted <;> rfl

/-- Outputs all quiet. -/
def Quiet (os : List Output) : Prop := os.all Output.isQuiet = true

theorem Quiet.append {a b : List Output} (ha : Quiet a) (hb : Quiet b) : Quiet (a ++ b) := by
  simp only [Quiet, List.all_append, Bool.and_eq_true]
  exact ⟨ha, hb⟩

theorem Quiet.of_plain {os : List Output} (h : os.all Output.isPlain = true) : Quiet os :=
  List.all_eq_true.2 fun o ho => Output.isQuiet_of_isPlain (List.all_eq_true.1 h o ho)

/-! ## What a configuration leaves -/

/-- `MP` files that differ at most in the fields no invariant speaks of but the longest payload. -/
def ModemParams.SameShape (m n : ModemParams) : Prop :=
  m = { n with
    modem := m.modem, payloadLen := m.payloadLen, maxPayloadLen := m.maxPayloadLen, publicNetwork := m.publicNetwork
    power := m.power, antSel := m.antSel }

/-- The ranges an `MP` file meets when RFW mode is entered from it (R155, R156, R271). -/
def ModemParams.RfwRange (m : ModemParams) : Prop :=
  (m.whiteMode = .ibmSw ∨ m.lengthMode = .var2) ∧ (m.rxValid = true ∨ m.txValid = true) ∧ m.crcType ≠ .other ∧
  m.datarate ≠ 0 ∧
  lenBytesOf (lenWidthOf m.lengthMode) + m.maxPayloadLen.toNat + crcBytesOf (crcWidthOf m.crcType) ≤ 65535 ∧
  (lenWidthOf m.lengthMode = .w1 → m.maxPayloadLen.toNat ≤ 255)

/-- What an accepted configuration makes of the `MP` file and the engine. -/
structure Configures (s : State) (m : ModemParams) (l : LongPacket) : Prop where
  rxValid : s.mp.rxValid = true → m.rxValid = true
  txValid : s.mp.txValid = true → m.txValid = true
  inv : s.mp.Inv → m.Inv
  engine : l = s.lp.disabled ∨ (l = s.lp.rfwFrom m ∧ m.RfwRange)

/-- The four configuration commands. -/
def isConfiguration : Instr → Bool
  | .setRxConfig _ | .setTxConfig _ | .setRxGenericConfig _ _ _ | .setTxGenericConfig _ _ _ => true
  | _ => false

/-! ## The ways a command ends -/

/-- The bodies of the accepted commands that change registers, after `Init` and before the response. -/
inductive CommandBody (s : State) : Instr → State → Prop
  | fields {i : Instr} (m : ModemParams) (os : List Output) (hi : writesModemParams i = true) (hm : m.SameShape s.mp)
      (hmax : s.lp.enable = true → m.maxPayloadLen = s.mp.maxPayloadLen) (hq : Quiet os) :
      CommandBody s i ({ s with mp := m }.output os)
  | abort {i : Instr} (os : List Output) (hi : i = .standby ∨ i = .sleep) (hq : Quiet os) :
      CommandBody s i { s.aborted with trace := s.trace ++ os }
  | random :
      CommandBody s .random
        { s.fromIdle.skipAnswers 1 with
          irqQ := [], irqMaskShadow := maskNone
          trace := s.fromIdle.trace ++ [.ri (.setDioIrqParams 0x0000), .ri .getRandom] }
  | configured {i : Instr} {k : Nat} {m : ModemParams} {l : LongPacket} {os : List Output}
      (hi : isConfiguration i = true) (h : Configures s m l) (hq : Quiet os) : CommandBody s i (s.configured k m l os)
  | sense {freq bw : U32} {thresh : U16} {bound : U32} {m : ModemParams} {l : LongPacket} {os : List Output}
      (env : Environment) (h : Configures s m l) (hl : l = s.lp.disabled) (hq : Quiet os) :
      CommandBody s (.isChannelFree freq bw thresh bound)
        { s.configured 0 m l os with irqQ := [], irqMaskShadow := maskNone, env := env }
  | send {n : Byte} {d : List Byte} (h : s.sendRefusal n = none) : CommandBody s (.send n d) (s.send n d)
  | receive {i : Instr} {timeout : U32} (boosted : Bool) (hi : i = .rx timeout ∨ i = .rxBoosted timeout)
      (he : s.lp.enable = false) : CommandBody s i (s.rxStart boosted timeout)
  | receiveRfw {i : Instr} {timeout : U32} (long boosted : Bool)
      (hi : i = .rx timeout ∨ i = .rxBoosted timeout ∨ i = .receiveLongPacket boosted timeout true)
      (he : s.lp.enable = true) : CommandBody s i (s.rfwRxStart long boosted timeout)
  | transmitLong {size : U16} {timeout : U32} {c : Bool} (h : s.transmitLongAllowed size c = true) :
      CommandBody s (.transmitLongPacket size timeout c) (s.transmitLong size timeout)
  | cad :
      CommandBody s .startCad
        { s.fromIdle with
          radioState := .cad, irqQ := [], irqMaskShadow := maskCad
          trace := s.fromIdle.trace ++ [.ri (.setDioIrqParams 0x0180), .ri (.setSwitch s.mp.antSel .rx), .ri .setCad] }
  | wave {freq : U32} {power : Byte} {seconds : U16} :
      CommandBody s (.setTxContinuousWave freq power seconds) (s.continuousWave freq power seconds)
  | dispatch : CommandBody s .irqProcess s.dispatchNext

/-- The ways a command but `Init` ends: refused before `Init`, answered without an effect but answers used, or done. -/
inductive CommandResult (i : Instr) (s : State) : State → Prop
  | refused (r : List Byte) : CommandResult i s (s.notInit r)
  | answered (k : Nat) {os : List Output} (hq : Quiet os) (r : List Byte) :
      CommandResult i s (((s.skipAnswers k).output os).output [.response r])
  | done {u : State} (hs : s.initialised = true) (h : CommandBody s i u) (r : List Byte) :
      CommandResult i s (u.output [.response r])

theorem CommandResult.of_ifInit {i : Instr} {s t : State} {r : List Byte}
    (h : s.initialised = true → CommandResult i s t) :
    CommandResult i s (if s.initialised = true then t else s.notInit r) := by
  split
  case isTrue hs => exact h hs
  case isFalse hs => exact .refused r

theorem CommandResult.answer {i : Instr} {s : State} (r : List Byte) : CommandResult i s (s.output [.response r]) := by
  have h := CommandResult.answered (i := i) (s := s) 0 (os := []) rfl r
  rwa [State.output_output] at h

theorem CommandResult.outputs {i : Instr} {s : State} (k : Nat) (os : List Output) (hq : Quiet os) (r : List Byte) :
    CommandResult i s ((s.skipAnswers k).output (os ++ [.response r])) :=
  State.output_output _ _ _ ▸ .answered k hq r

theorem CommandResult.of_done {i : Instr} {s u t : State} (hs : s.initialised = true) (h : CommandBody s i u)
    (r : List Byte) (ht : u.output [.response r] = t) : CommandResult i s t := ht ▸ .done hs h r

/-! ### The configuration commands -/

theorem legacyCrcType_off {type : CrcType} (h : type ≠ .off) (crcOn : Bool) :
    crcOn = ((if crcOn then type else .off) != .off) := by
  cases crcOn <;> simp [h]

theorem legacyLengthMode_fixed (fixLen : Bool) : fixLen = (legacyLengthMode fixLen == .fixed) := by cases fixLen <;> rfl

theorem ModemParams.writeGeneric_inv {g : Gcfg} {gm : GenericModes} (hg : genericModes g = some gm) (m : ModemParams) :
    (m.writeGeneric g gm).Inv := ⟨rfl, rfl, (genericModes_eq_some hg).2.1⟩

/-- The ranges of R155 are those RFW mode needs, whatever the fields of the direction. -/
theorem generic_engine {g : Gcfg} {gm : GenericModes} (hg : genericModes g = some gm) (l : LongPacket) {m n : ModemParams}
    (hm : m.lengthMode = gm.lengthMode ∧ m.crcType = gm.crcType ∧ m.whiteMode = gm.whiteMode ∧
      m.maxPayloadLen = g.maxPayloadLen ∧ m.datarate = g.bitrate)
    (hvalid : m.rxValid = true ∨ m.txValid = true) (hn : l.rfwFrom n = l.rfwFrom m) :
    l.generic n gm = l.disabled ∨ (l.generic n gm = l.rfwFrom m ∧ m.RfwRange) := by
  obtain ⟨hlength, hcrc, hwhite, hmax, hrate⟩ := hm
  obtain ⟨hbitrate, -, hrfw, hrange⟩ := genericModes_eq_some hg
  unfold LongPacket.generic
  cases h : gm.rfw
  · exact .inl rfl
  · obtain ⟨hother, hframe, hvar1⟩ := hrange h
    rw [h] at hrfw
    refine .inr ⟨hn, ?_, hvalid, hcrc ▸ hother, hrate ▸ hbitrate, ?_, fun hw => ?_⟩
    · rw [hwhite, hlength]
      simpa using hrfw.symm
    · rw [hlength, hcrc, hmax]
      exact hframe
    · rw [hlength] at hw
      rw [hmax]
      exact hvar1 (by cases hl : gm.lengthMode <;> simp [hl, lenWidthOf] at hw ⊢)

theorem configures_rxFsk (s : State) (c : RxConfig) : Configures s (s.mp.rxFsk c) s.lp.disabled where
  rxValid _ := rfl
  txValid := id
  inv _ := ⟨legacyLengthMode_fixed _, legacyCrcType_off (type := .ccitt2) nofun _, show (3 : Byte).toNat ≤ 8 by decide⟩
  engine := .inl rfl

/-- A configuration body refuses, or leaves what a configuration leaves (R140 to R142). -/
theorem ConfigBody.result {body : State → State} (h : ConfigBody body) (s : State) :
    (∃ r, body s = s.output [.response r]) ∨
      ∃ k m l os r, body s = (s.configured k m l os).output [.response r] ∧ Configures s m l ∧ Quiet os := by
  cases h with
  | refused r => exact .inl ⟨r, rfl⟩
  | rxFsk c =>
    exact .inr ⟨_, _, _, _, _, congrArg (State.output · _) (s.rxConfigFsk_eq c), configures_rxFsk s c, rfl⟩
  | rxSigfox c =>
    exact .inr ⟨_, _, _, _, _, congrArg (State.output · _) (s.rxConfigSigfox_eq c),
      ⟨fun _ => rfl, id, fun _ => ⟨rfl, rfl, show (2 : Byte).toNat ≤ 8 by decide⟩, .inl rfl⟩, rfl⟩
  | rxLora c =>
    refine .inr ⟨_, _, _, _, _, congrArg (State.output · _) (s.rxConfigLora_eq c),
      ⟨fun _ => rfl, id, fun hinv => ?_, .inl rfl⟩, rfl⟩
    exact ⟨legacyLengthMode_fixed _, legacyCrcType_off (type := .other) nofun _, hinv.2.2⟩
  | txFsk c =>
    refine .inr ⟨_, _, _, _, _, congrArg (State.output · _) (State.eq_configured_tail (s.txConfigFsk_eq c) _ _),
      ⟨id, fun _ => rfl, fun _ => ?_, .inl rfl⟩, rfl⟩
    exact ⟨legacyLengthMode_fixed _, legacyCrcType_off (type := .ccitt2) nofun _, show (3 : Byte).toNat ≤ 8 by decide⟩
  | txSigfox c =>
    exact .inr ⟨_, _, _, _, _, congrArg (State.output · _) (State.eq_configured_tail (s.txConfigSigfox_eq c) _ _),
      ⟨id, fun _ => rfl, fun hinv => hinv, .inl rfl⟩, rfl⟩
  | txLora c =>
    refine .inr ⟨_, _, _, _, _, congrArg (State.output · _) (State.eq_configured_tail (s.txConfigLora_eq c) _ _),
      ⟨id, fun _ => rfl, fun hinv => ?_, .inl rfl⟩, rfl⟩
    exact ⟨legacyLengthMode_fixed _, legacyCrcType_off (type := .other) nofun _, hinv.2.2⟩
  | rxGeneric hg cont symb =>
    refine .inr ⟨_, _, _, _, _, congrArg (State.output · _) (s.rxGeneric_eq _ _ cont symb),
      ⟨fun _ => rfl, id, fun _ => ModemParams.writeGeneric_inv hg s.mp,
        generic_engine hg _ ⟨rfl, rfl, rfl, rfl, rfl⟩ (.inl rfl) rfl⟩, ?_⟩
    simp only [genericPacket_eq]
    rfl
  | txGeneric hg k power timeout =>
    refine .inr ⟨_, _, _, _, _, congrArg (State.output · _) (State.eq_configured_tail (s.txGenericFsk_eq k _ _) _ _),
      ⟨id, fun _ => rfl, fun _ => ModemParams.writeGeneric_inv hg s.mp,
        generic_engine hg _ ⟨rfl, rfl, rfl, rfl, rfl⟩ (.inr rfl) rfl⟩, ?_⟩
    simp only [genericPacket_eq]
    rfl
  | txBpsk g power timeout =>
    exact .inr ⟨_, _, _, _, _, congrArg (State.output · _) (State.eq_configured_tail (s.txGenericBpsk_eq g) _ _),
      ⟨id, fun _ => rfl, fun hinv => hinv, .inl rfl⟩, rfl⟩

theorem RunsConfigBody.result {i : Instr} (h : RunsConfigBody i) (hi : isConfiguration i = true) (s : State) :
    ∃ t, exec i s = .next t ∧ CommandResult i s t := by
  obtain ⟨body, hbody, hexec⟩ := h
  refine ⟨_, hexec s, .of_ifInit fun hs => ?_⟩
  obtain ⟨r, hr⟩ | ⟨k, m, l, os, r, hr, hconf, hq⟩ := hbody.result s
  · rw [hr]; exact .answer r
  · rw [hr]; exact .done hs (.configured hi hconf hq) r

/-! ### The other commands -/

theorem exec_setModem_result (m : Byte) (s : State) :
    ∃ t, exec (.setModem m) s = .next t ∧ CommandResult (.setModem m) s t := by
  refine ⟨_, exec_setModem_eq m s, .of_ifInit fun hs => ?_⟩
  split
  · exact .answer _
  · let k := [ModemKind.fsk, .lora, .msk, .bpsk, .sigfoxTx, .sigfoxRx].getD m.toNat .fsk
    exact .of_done hs (.fields { s.mp with modem := k } [] rfl rfl (fun _ => rfl) rfl) statusOk
      (by rw [State.output_output]; rfl)

theorem exec_setPublicNetwork_result (enable : Bool) (s : State) :
    ∃ t, exec (.setPublicNetwork enable) s = .next t ∧ CommandResult (.setPublicNetwork enable) s t := by
  refine ⟨_, exec_setPublicNetwork_eq enable s, .of_ifInit fun hs => ?_⟩
  let w := if enable then Config.loraSyncwordPublic else Config.loraSyncwordPrivate
  exact .of_done hs (.fields { s.mp with publicNetwork := enable }
    [.ri (.write Config.addrLoraSyncword (w.extractLsb' 8 8)),
      .ri (.write (Config.addrLoraSyncword + 1) (w.extractLsb' 0 8))] rfl rfl (fun _ => rfl) rfl) statusOk
    (by rw [State.output_output]; rfl)

/-- An accepted `SetMaxPayloadLength` writes the `MP` file outside RFW mode. -/
theorem State.setMaxPayload_body {s : State} {k : ModemKind} (hk : k = .fsk ∨ k = .lora)
    (h : s.maxPayloadAllowed k = true) (m max : Byte) :
    CommandBody s (.setMaxPayloadLength m max) (s.setMaxPayload k max) := by
  have he : s.lp.enable = false := by
    by_contra hne
    exact Bool.eq_false_iff.1 (State.maxPayloadAllowed_eq_false_iff.2 (.inr (.inl (by simpa using hne)))) h
  have hno : s.lp.enable = true → max.setWidth 16 = s.mp.maxPayloadLen := fun h => by simp [he] at h
  obtain rfl | rfl := hk
  · by_cases hfix : s.mp.fixLen = true
    · rw [State.setMaxPayload_fsk_fixed hfix]
      have := CommandBody.fields (s := s) (i := .setMaxPayloadLength m max)
        { s.mp with maxPayloadLen := max.setWidth 16 } [] rfl rfl hno rfl
      rwa [State.output, List.append_nil] at this
    · rw [State.setMaxPayload_fsk_variable (Bool.eq_false_iff.2 hfix) he]
      exact .fields { s.mp with maxPayloadLen := max.setWidth 16, payloadLen := max.setWidth 16 } [_] rfl rfl hno rfl
  · rw [State.setMaxPayload_lora]
    exact .fields { s.mp with maxPayloadLen := max.setWidth 16, payloadLen := max.setWidth 16 } [_] rfl rfl hno rfl

theorem exec_setMaxPayloadLength_result (m max : Byte) (s : State) :
    ∃ t, exec (.setMaxPayloadLength m max) s = .next t ∧ CommandResult (.setMaxPayloadLength m max) s t := by
  by_cases hs : s.initialised = true
  · by_cases hm : m = 0 ∨ m = 1
    · refine ⟨_, execSetMaxPayloadLength_supported hs hm max, ?_⟩
      have hkind : (if m = 1 then ModemKind.lora else .fsk) = .fsk ∨ (if m = 1 then ModemKind.lora else .fsk) = .lora := by
        split <;> simp
      by_cases h : s.maxPayloadAllowed (if m = 1 then .lora else .fsk) = true
      · rw [if_pos h]; exact .done hs (State.setMaxPayload_body hkind h m max) _
      · rw [if_neg h]; exact .answer _
    · exact ⟨_, execSetMaxPayloadLength_unsupported hs (hm <| .inl ·) (hm <| .inr ·) max, .answer _⟩
  · exact ⟨_, execSetMaxPayloadLength_before_init (Bool.eq_false_iff.2 hs) m max, .refused _⟩

theorem sense_quiet (freq : U32) (sel : Byte) (t0 bound : U32) (thresh : U16) (run : List (U32 × U16)) :
    Quiet ([.ri (.setRfFrequency freq), .ri (.setDioIrqParams 0x0000), .ri (.setSwitch sel .rx), .ri (.setRx 0xFFFFFF),
      .tmr .getCurrentTime] ++ senseOutputs t0 bound thresh run ++ [standbyOutput]) := by
  have hpolls (l : List (U32 × U16)) :
      Quiet (l.flatMap fun _ => [.tmr (.getElapsedTime t0), .ri .getRssiInst]) := by
    induction l with
    | nil => rfl
    | cons p l ih => exact ih
  refine (Quiet.append (by exact rfl) ((hpolls _).append ?_)).append rfl
  split <;> rfl

theorem exec_isChannelFree_result (freq bw : U32) (thresh : U16) (bound : U32) (s : State) :
    ∃ t, exec (.isChannelFree freq bw thresh bound) s = .next t ∧
      CommandResult (.isChannelFree freq bw thresh bound) s t := by
  refine ⟨_, exec_isChannelFree_eq freq bw thresh bound s, .of_ifInit fun hs => ?_⟩
  rw [State.sense_eq, State.rxConfigFsk_eq]
  let m := s.mp.rxFsk (senseConfig bw)
  let records : List Output :=
    [.ri (.setModulationParams (.fsk false csDatarate s.mp.fdev (Config.fskBwCode bw))), fskPacket m m.payloadLen]
  have hrecords : Quiet records := rfl
  have hquiet := hrecords.append (sense_quiet freq s.mp.antSel (s.answer 0) bound thresh s.senseRun)
  let env : Environment := { s.env with
    answers := s.env.answers.drop 1, senseRuns := s.env.senseRuns.drop 1, draws := s.env.draws + 2 }
  refine .of_done hs (.sense env (configures_rxFsk s (senseConfig bw)) rfl hquiet)
    [if (!senseBusy bound thresh s.senseRun) = true then 1 else 0] ?_
  simp only [State.output, State.configured, List.append_assoc]
  rfl

/-- The ways `Send` ends (R212). -/
theorem exec_send_result (n : Byte) (d : List Byte) (s : State) :
    ∃ t, exec (.send n d) s = .next t ∧ CommandResult (.send n d) s t := by
  refine ⟨_, exec_send_eq n d s, .of_ifInit fun hs => ?_⟩
  cases h : s.sendRefusal n with
  | some r => exact .answer r
  | none => exact .done hs (.send h) _

/-- A reception starts outside RFW mode or in it. -/
theorem State.rxStart_body {s : State} {i : Instr} {timeout : U32} {boosted : Bool}
    (hi : i = .rx timeout ∨ i = .rxBoosted timeout) : CommandBody s i (s.rxStart boosted timeout) := by
  cases he : s.lp.enable with
  | false => exact .receive boosted hi he
  | true =>
    rw [State.rxStart_rfw he]
    exact .receiveRfw false boosted (hi.imp_right .inl) he

theorem exec_command_result {i : Instr} (hi : isCommand i = true) (hinit : ∀ m, i ≠ .init m) (s : State) :
    ∃ t, exec i s = .next t ∧ CommandResult i s t := by
  cases i with
  | init m => exact absurd rfl (hinit m)
  | getStatus => exact ⟨_, exec_getStatus_eq s, .answer _⟩
  | checkRfFrequency f => exact ⟨_, exec_checkRfFrequency_eq f s, .answer _⟩
  | timeOnAir a => exact ⟨_, exec_timeOnAir_eq a s, .answer _⟩
  | getWakeupTime => exact ⟨_, exec_getWakeupTime_eq s, .answer _⟩
  | setModem m => exact exec_setModem_result m s
  | setChannel f => exact ⟨_, exec_setChannel_eq f s, .of_ifInit fun _ => .outputs 0 [.ri (.setRfFrequency f)] rfl _⟩
  | isChannelFree f b th t => exact exec_isChannelFree_result f b th t s
  | random =>
    exact ⟨_, exec_random_eq s, .of_ifInit fun hs => .of_done hs .random (u32Bytes (s.answer 0))
      (by simp [State.output, maskNone])⟩
  | setRxConfig c => exact (setRxConfig_runsConfigBody c).result rfl s
  | setTxConfig c => exact (setTxConfig_runsConfigBody c).result rfl s
  | send n d => exact exec_send_result n d s
  | sleep =>
    exact ⟨_, exec_sleep_eq s, .of_ifInit fun hs => .of_done hs
      (.abort [.tmr (.stop .tx), .tmr (.stop .rx), .tmr (.stop .chunk), .ri (.setSleep Config.sleepParams)] (.inr rfl)
        rfl) statusOk
      (by simp [State.output])⟩
  | standby =>
    exact ⟨_, exec_standby_eq s, .of_ifInit fun hs => .of_done hs
      (.abort [.tmr (.stop .tx), .tmr (.stop .rx), .tmr (.stop .chunk), standbyOutput] (.inl rfl) rfl) _ rfl⟩
  | rx t =>
    refine ⟨_, exec_rx_eq t s, .of_ifInit fun hs => ?_⟩
    split
    · exact .done hs (State.rxStart_body (.inl rfl)) _
    · exact .answer _
  | rxBoosted t =>
    refine ⟨_, exec_rxBoosted_eq t s, .of_ifInit fun hs => ?_⟩
    split
    · exact .done hs (State.rxStart_body (.inr rfl)) _
    · exact .answer _
  | startCad =>
    exact ⟨_, exec_startCad_eq s, .of_ifInit fun hs => .of_done hs .cad statusOk (by simp [State.output, maskCad])⟩
  | setTxContinuousWave f p n => exact ⟨_, exec_setTxContinuousWave_eq f p n s, .of_ifInit fun hs => .done hs .wave _⟩
  | rssi m => exact ⟨_, exec_rssi_eq m s, .of_ifInit fun _ => .outputs 1 [.ri .getRssiInst] rfl _⟩
  | write a d => exact ⟨_, exec_write_eq a d s, .of_ifInit fun _ => .outputs 0 [.ri (.write a d)] rfl _⟩
  | read a => exact ⟨_, exec_read_eq a s, .of_ifInit fun _ => .outputs 1 [.ri (.read a)] rfl _⟩
  | writeRegisters a n d =>
    refine ⟨_, exec_writeRegisters_eq a n d s, .of_ifInit fun _ => .outputs 0 _ ?_ _⟩
    split <;> rfl
  | readRegisters a n =>
    refine ⟨_, exec_readRegisters_eq a n s, .of_ifInit fun _ => ?_⟩
    split
    · exact .answer _
    · exact .outputs _ [.ri (.readRegisters a n)] rfl _
  | setMaxPayloadLength m k => exact exec_setMaxPayloadLength_result m k s
  | setPublicNetwork e => exact exec_setPublicNetwork_result e s
  | irqProcess => exact ⟨_, exec_irqProcess_eq s, .of_ifInit fun hs => .done hs .dispatch _⟩
  | setRxDutyCycle r t =>
    exact ⟨_, congrArg Host.Outcome.next s.refuseUnsupported_eq, .of_ifInit fun _ => .answer _⟩
  | txPrbs => exact ⟨_, congrArg Host.Outcome.next s.refuseUnsupported_eq, .of_ifInit fun _ => .answer _⟩
  | txCw p => exact ⟨_, congrArg Host.Outcome.next s.refuseUnsupported_eq, .of_ifInit fun _ => .answer _⟩
  | setRxGenericConfig g c t => exact (setRxGenericConfig_runsConfigBody g c t).result rfl s
  | setTxGenericConfig g p t => exact (setTxGenericConfig_runsConfigBody g p t).result rfl s
  | transmitLongPacket n t c =>
    refine ⟨_, exec_transmitLongPacket_eq n t c s, .of_ifInit fun hs => ?_⟩
    split
    case isTrue h => exact .done hs (.transmitLong h) _
    case isFalse => exact .answer _
  | receiveLongPacket b t c =>
    refine ⟨_, exec_receiveLongPacket_eq b t c s, .of_ifInit fun hs => ?_⟩
    split
    case isTrue h =>
      simp only [Bool.and_eq_true] at h
      obtain ⟨⟨-, he⟩, rfl⟩ := h
      exact .done hs (.receiveRfw true b (.inr (.inr rfl)) he) _
    case isFalse => exact .answer _
  | lrFhssSetCfg n d => exact ⟨_, congrArg Host.Outcome.next s.refuseUnsupported_eq, .of_ifInit fun _ => .answer _⟩
  | lrFhssGetTimeOnAirInMs n d =>
    exact ⟨_, exec_lrFhssGetTimeOnAirInMs_eq n d s, .of_ifInit fun _ => .answer _⟩
  | irqTxDone | irqRxDone | irqPreambleDetected | irqSyncWordValid | irqHeaderValid | irqHeaderError | irqCrcError
  | irqCadDone _ | irqTimeout | irqLrFhssHop | irqReserved _ | expireTxTimer | expireRxTimer | expireChunkTimer =>
    cases hi

end Sys2Proof.Machine
end

section
/-! What an event and an expiry can do (`60_exceptions.md` R353 to R367): the ways a dispatch ends, a list like the one for
commands. -/

namespace Sys2Proof.Machine

/-! ## The ways an event or an expiry ends -/

/-- The instructions of the IRQ and the timer port, and what each does to the state. -/
inductive EventResult (s : State) : Instr → State → Prop
  | dropped (i : Instr) : EventResult s i s
  | badEvent (b : U16) : EventResult s (.irqReserved b) (s.raiseFault .badEvent)
  | disarmedTx (h : s.radioState ≠ .txRunning) : EventResult s .expireTxTimer (s.tmrExpired .tx)
  | disarmedRx : EventResult s .expireRxTimer (s.tmrExpired .rx)
  | disarmedChunk (ht : ¬(s.radioState = .txRunning ∧ s.lp.dir = .tx ∧ s.lp.phase = .streaming))
      (hr : ¬(s.radioState = .rxRunning ∧ s.lp.dir = .rx ∧ (s.lp.phase = .streaming ∨ s.lp.phase = .lastChunk))) :
      EventResult s .expireChunkTimer (s.tmrExpired .chunk)
  | transmitEnded {i : Instr} (b : Nat) {c : Callback} (hr : s.radioState = .txRunning)
      (hi : i = .irqTxDone ∨ i = .irqTimeout ∨ i = .expireTxTimer) (hc : (Output.cb c).isTerminal = true) :
      EventResult s i (s.transmitEnded b c)
  | receiveTimedOut {i : Instr} (hr : s.radioState = .rxRunning) (hi : i = .irqTimeout ∨ i = .expireRxTimer) :
      EventResult s i (s.receiveEnded 3 .rxTimeout)
  | receiveFailed {i : Instr} (hr : s.radioState = .rxRunning) (hd : s.lp.dir = .none)
      (hi : i = .irqCrcError ∨ i = .irqHeaderError) : EventResult s i s.rxErrorPath
  | receiveReported (hr : s.radioState = .rxRunning) (hd : s.lp.dir = .none) : EventResult s .irqRxDone s.rxDonePath
  | cadEnded (hr : s.radioState = .cad) (detected : Bool) : EventResult s (.irqCadDone detected) (s.cadDonePath detected)
  | header (hr : s.radioState = .rxRunning) (hd : s.lp.dir = .rx) (hp : s.lp.phase = .headerPending) :
      EventResult s .irqSyncWordValid s.lpHeader
  | transmitChunk (hr : s.radioState = .txRunning) (hd : s.lp.dir = .tx) (hp : s.lp.phase = .streaming) :
      EventResult s .expireChunkTimer (s.tmrExpired .chunk).txChunkExpiry
  | receiveChunk (hr : s.radioState = .rxRunning) (hd : s.lp.dir = .rx)
      (hp : s.lp.phase = .streaming ∨ s.lp.phase = .lastChunk) :
      EventResult s .expireChunkTimer (s.tmrExpired .chunk).rxChunkExpiry

theorem EventResult.ite {i : Instr} {s t : State} {p : Prop} [Decidable p] (h : p → EventResult s i t) :
    EventResult s i (if p then t else s) := by
  split
  case isTrue hp => exact h hp
  case isFalse => exact .dropped i

/-- A timeout ends the operation it finds (R357, R358). -/
theorem State.dispatchTimeout_result (s : State) : EventResult s .irqTimeout s.dispatchTimeout := by
  unfold State.dispatchTimeout
  split
  case h_1 hr => exact s.txTimeoutPath_eq ▸ .transmitEnded 1 hr (.inr (.inl rfl)) rfl
  case h_2 hr => exact s.rxTimeoutPath_eq ▸ .receiveTimedOut hr (.inl rfl)
  all_goals exact .dropped _

/-- A dispatch does to the state what its row does (R353). -/
theorem State.dispatchEvent_result (e : IrqEvent) (s : State) : EventResult s (instrOfEvent e) (s.dispatchEvent e) := by
  cases e with
  | txDone => exact .ite fun hr => s.txDonePath_eq ▸ .transmitEnded 0 hr (.inl rfl) rfl
  | rxDone => exact .ite fun h => .receiveReported h.1 h.2
  | preambleDetected | headerValid | lrFhssHop => exact .dropped _
  | syncWordValid => exact .ite fun h => .header h.1 h.2.1 h.2.2
  | headerError => exact .ite fun h => .receiveFailed h.1 h.2 (.inr rfl)
  | crcError => exact .ite fun h => .receiveFailed h.1 h.2 (.inl rfl)
  | cadDone d => exact .ite fun hr => .cadEnded hr d
  | timeout => exact s.dispatchTimeout_result

theorem State.txTimerExpiry_result (s : State) : EventResult s .expireTxTimer s.txTimerExpiry := by
  by_cases hr : s.radioState = .txRunning
  · have h : s.txTimerExpiry = s.transmitEnded 1 .txTimeout :=
      (if_pos hr).trans ((State.txTimeoutPath_eq _).trans (s.transmitEnded_tmrExpired 1 .txTimeout))
    exact h ▸ .transmitEnded 1 hr (.inr (.inr rfl)) rfl
  · exact State.txTimerExpiry_of_other hr ▸ .disarmedTx hr

theorem State.rxTimerExpiry_result (s : State) : EventResult s .expireRxTimer s.rxTimerExpiry := by
  by_cases hr : s.radioState = .rxRunning
  · have h : s.rxTimerExpiry = s.receiveEnded 3 .rxTimeout :=
      (if_pos hr).trans ((State.rxTimeoutPath_eq _).trans (s.receiveEnded_tmrExpired 3 .rxTimeout))
    exact h ▸ .receiveTimedOut hr (.inr rfl)
  · exact State.rxTimerExpiry_of_other hr ▸ .disarmedRx

theorem State.chunkTimerExpiry_result (s : State) : EventResult s .expireChunkTimer s.chunkTimerExpiry := by
  by_cases ht : s.radioState = .txRunning ∧ s.lp.dir = .tx ∧ s.lp.phase = .streaming
  · have h : s.chunkTimerExpiry = (s.tmrExpired .chunk).txChunkExpiry := if_pos ht
    exact h ▸ .transmitChunk ht.1 ht.2.1 ht.2.2
  by_cases hr : s.radioState = .rxRunning ∧ s.lp.dir = .rx ∧ (s.lp.phase = .streaming ∨ s.lp.phase = .lastChunk)
  · have h : s.chunkTimerExpiry = (s.tmrExpired .chunk).rxChunkExpiry := (if_neg ht).trans (if_pos hr)
    exact h ▸ .receiveChunk hr.1 hr.2.1 hr.2.2
  · exact State.chunkTimerExpiry_of_other ht hr ▸ .disarmedChunk ht hr

theorem exec_event_result {i : Instr} (hi : isCommand i = false) (s : State) :
    ∃ t, exec i s = .next t ∧ EventResult s i t := by
  cases i with
  | irqTxDone => exact ⟨_, rfl, s.dispatchEvent_result .txDone⟩
  | irqRxDone => exact ⟨_, rfl, s.dispatchEvent_result .rxDone⟩
  | irqPreambleDetected | irqHeaderValid | irqLrFhssHop => exact ⟨_, rfl, .dropped _⟩
  | irqSyncWordValid => exact ⟨_, rfl, s.dispatchEvent_result .syncWordValid⟩
  | irqHeaderError => exact ⟨_, rfl, s.dispatchEvent_result .headerError⟩
  | irqCrcError => exact ⟨_, rfl, s.dispatchEvent_result .crcError⟩
  | irqCadDone d => exact ⟨_, rfl, s.dispatchEvent_result (.cadDone d)⟩
  | irqTimeout => exact ⟨_, rfl, s.dispatchTimeout_result⟩
  | irqReserved b => exact ⟨_, rfl, .badEvent b⟩
  | expireTxTimer => exact ⟨_, rfl, .ite fun _ => s.txTimerExpiry_result⟩
  | expireRxTimer => exact ⟨_, rfl, .ite fun _ => s.rxTimerExpiry_result⟩
  | expireChunkTimer => exact ⟨_, rfl, .ite fun _ => s.chunkTimerExpiry_result⟩
  | _ => cases hi

/-! ## The ways the steps of a receive transfer end -/

/-- `s` after the engine ran its units and read from the ring. -/
def State.engineRan (s : State) (white : BitVec 9) (crc : U16) (env : Environment) (os : List Output) : State :=
  { s with lp := { s.lp with whiteLfsr := white, crcLfsr := crc }, env := env, trace := s.trace ++ os }

/-- `s` with a received length accepted (R290). -/
def State.lengthAccepted (s : State) (len : U16) : State :=
  { s with
    lp := { s.lp with
      payloadLen := len, remaining := len
      total := BitVec.ofNat 32 (lenBytesOf s.lp.lenW + len.toNat + crcBytesOf s.lp.crcW)
      bufOffset := BitVec.ofNat 8 (lenBytesOf s.lp.lenW) } }

/-- The header procedure has no length field, gets no header in time, or reads one (R290). -/
theorem State.lpHeader_accepts (s : State) :
    ∃ white crc env os, os.all Output.isPlain = true ∧
      (s.lpHeader = (s.engineRan white crc env os).receiveEnded 3 .rxTimeout ∨
        ∃ len, s.lpHeader = (s.engineRan white crc env os).lpAcceptLength len) := by
  let w := lenBytesOf s.lp.lenW
  let poll : Output := .ri (.pollRxBytes (BitVec.ofNat 8 w) (lpHeaderWaitMs w s.lp.bitrate))
  let polled := (s.skipAnswers 1).output [poll]
  by_cases hw : w = 0
  · refine ⟨s.lp.whiteSeed, s.lp.crcSeed, s.env, [], rfl, .inr ⟨s.lp.fixedLen, ?_⟩⟩
    rw [State.lpHeader_of_noLength hw, State.engineRan, List.append_nil]
    rfl
  cases hp : (s.answer 0).getLsbD 0 with
  | false =>
    refine ⟨s.lp.whiteSeed, s.lp.crcSeed, polled.env, [poll], rfl, .inl ?_⟩
    rw [State.lpHeader_of_silent hw hp, State.lpRxFail_eq _ _ 3 rfl]
    rfl
  | true =>
    let h := s.lp.seed.rxHeader (polled.nextBytes w)
    refine ⟨h.2.whiteLfsr, h.2.crcLfsr, (polled.skipAnswers w).env,
      [poll, .ri (.readBuffer 0 (BitVec.ofNat 8 w))], rfl, .inr ⟨h.1, ?_⟩⟩
    rw [State.lpHeader_of_arrived hw hp, State.riReadBuffer_eq, if_neg hw]
    simp only [h, LongPacket.rxHeader, LongPacket.whiteRun_eq, LongPacket.crcRun_eq, State.engineRan]
    simp only [State.output, State.setLp, State.skipAnswers, State.ri_eq, List.append_assoc]
    rfl

/-- The header procedure ends the reception, or schedules the first chunk of a length in range (R290). -/
theorem State.lpHeader_result (s : State) :
    ∃ white crc env os, os.all Output.isPlain = true ∧
      ((∃ b c, (Output.cb c).isTerminal = true ∧ s.lpHeader = (s.engineRan white crc env os).receiveEnded b c) ∨
        ∃ len, len.toNat ≤ s.lp.maxLen.toNat ∧
          s.lpHeader = ((s.engineRan white crc env os).lengthAccepted len).chunkScheduled) := by
  obtain ⟨white, crc, env, os, hos, h | ⟨len, h⟩⟩ := s.lpHeader_accepts
  · exact ⟨white, crc, env, os, hos, .inl ⟨3, .rxTimeout, rfl, h⟩⟩
  rw [State.lpAcceptLength_eq] at h
  refine ⟨white, crc, env, os, hos, ?_⟩
  split at h
  case isTrue => exact .inl ⟨4, .rxError, rfl, h⟩
  case isFalse hle => exact .inr ⟨len, Nat.not_lt.1 hle, h⟩

/-- A receive chunk ends the reception, or schedules the next (R292). -/
theorem State.rxChunkExpiry_result (s : State) :
    (∃ u, (u = s.chunkRead ∨ u = s.chunkStaged) ∧ s.rxChunkExpiry = u.receiveEnded 4 .rxError) ∨
      s.rxChunkExpiry = s.chunkStaged.receiveDone ∨
      (s.lp.phase ≠ .lastChunk ∧ s.lp.rxPayloadOffset.toNat + s.lp.chunkPayload < 255 ∧
        s.rxChunkExpiry = s.chunkStaged.chunkScheduled) := by
  obtain hfit | hfull := Nat.lt_or_ge (s.lp.rxPayloadOffset.toNat + s.lp.chunkPayload) 255
  · have h := State.rxChunkExpiry_of_fit hfit
    split at h
    · split at h
      · exact .inr (.inl h)
      · exact .inl ⟨_, .inr rfl, h⟩
    case isFalse hlast => exact .inr (.inr ⟨hlast, hfit, h⟩)
  · exact .inl ⟨_, .inl rfl, State.rxChunkExpiry_of_full hfull⟩

end Sys2Proof.Machine
end

section
/-! Who writes which register (`10_state.md`, `42_txrx_commands.md` R210): what each way a command or an event ends leaves
unchanged; then O5, O17 and O18. -/

namespace Sys2Proof.Machine

/-! ## The registers an instruction may write -/

/-- `t` differs from `s` at most in `RadioState`, the queue, the timers, a transfer's registers, the environment and the
trace. -/
structure SameRegisters (s t : State) : Prop where
  initialised : t.initialised = s.initialised
  cbMask : t.cbMask = s.cbMask
  fault : t.fault = s.fault
  irqMask : t.irqMaskShadow = s.irqMaskShadow
  mp : t.mp = s.mp
  engine : t.lp.configPart = s.lp.configPart
  streams : t.lp.whiteLfsr = s.lp.whiteLfsr ∧ t.lp.crcLfsr = s.lp.crcLfsr
  rxStage : t.rxStage = s.rxStage
  radioBuffer : t.radioBuffer = s.radioBuffer

/-- What an instruction but `Init` does to the registers: what O5, O17 and O18 say of it, in one place. -/
structure Effect (i : Instr) (s t : State) : Prop where
  initialised : t.initialised = s.initialised
  cbMask : t.cbMask = s.cbMask
  fault : s.fault &&& t.fault = s.fault
  rxValid : s.mp.rxValid = true → t.mp.rxValid = true
  txValid : s.mp.txValid = true → t.mp.txValid = true
  radio : t.radioState = s.radioState ∨ t.radioState ∈ radioTargets s.radioState i
  irqMask : writesIrqMask i = false → t.irqMaskShadow = s.irqMaskShadow
  mp : writesModemParams i = false → t.mp = s.mp
  engine : writesEngineConfig i = false → t.lp.configPart = s.lp.configPart
  streams : writesStreamRegisters i = false → t.lp.whiteLfsr = s.lp.whiteLfsr ∧ t.lp.crcLfsr = s.lp.crcLfsr
  rxStage : writesRxStage i = false → t.rxStage = s.rxStage
  radioBuffer : usesRadioBuffer i = false → t.radioBuffer = s.radioBuffer

/-- Raising a bit keeps the others (R26). -/
theorem and_or_self_bits {w : Nat} (x y : BitVec w) : x &&& (x ||| y) = x := by
  ext k
  simp only [BitVec.getElem_and, BitVec.getElem_or]
  cases x[k] <;> rfl

theorem SameRegisters.effect {i : Instr} {s t : State} (h : SameRegisters s t)
    (hr : t.radioState = s.radioState ∨ t.radioState ∈ radioTargets s.radioState i) : Effect i s t where
  initialised := h.initialised
  cbMask := h.cbMask
  fault := by rw [h.fault, BitVec.and_self]
  rxValid := by rw [h.mp]; exact id
  txValid := by rw [h.mp]; exact id
  radio := hr
  irqMask _ := h.irqMask
  mp _ := h.mp
  engine _ := h.engine
  streams _ := h.streams
  rxStage _ := h.rxStage
  radioBuffer _ := h.radioBuffer

theorem SameRegisters.refl (s : State) : SameRegisters s s := ⟨rfl, rfl, rfl, rfl, rfl, rfl, ⟨rfl, rfl⟩, rfl, rfl⟩

theorem SameRegisters.aborted (s : State) : SameRegisters s s.aborted :=
  ⟨rfl, rfl, rfl, rfl, rfl, rfl, ⟨rfl, rfl⟩, rfl, rfl⟩

theorem SameRegisters.fromIdle (s : State) : SameRegisters s s.fromIdle := by
  obtain h | h := s.fromIdle_cases <;> rw [h]
  · exact .refl s
  · exact .aborted s

theorem SameRegisters.transmitEnded (s : State) (b : Nat) (c : Callback) : SameRegisters s (s.transmitEnded b c) :=
  ⟨rfl, rfl, rfl, rfl, rfl, rfl, ⟨rfl, rfl⟩, rfl, rfl⟩

theorem SameRegisters.receiveEnded (s : State) (b : Nat) (c : Callback) : SameRegisters s (s.receiveEnded b c) :=
  ⟨rfl, rfl, rfl, rfl, rfl, rfl, ⟨rfl, rfl⟩, rfl, rfl⟩

theorem SameRegisters.tmrExpired (s : State) (t : TimerId) : SameRegisters s (s.tmrExpired t) := by
  cases t <;> exact ⟨rfl, rfl, rfl, rfl, rfl, rfl, ⟨rfl, rfl⟩, rfl, rfl⟩

theorem SameRegisters.rxErrorPath (s : State) : SameRegisters s s.rxErrorPath := by
  rw [State.rxErrorPath_eq]
  exact ⟨rfl, rfl, rfl, rfl, rfl, rfl, ⟨rfl, rfl⟩, rfl, rfl⟩

theorem SameRegisters.cadDonePath (s : State) (d : Bool) : SameRegisters s (s.cadDonePath d) := by
  rw [State.cadDonePath_eq]
  exact ⟨rfl, rfl, rfl, rfl, rfl, rfl, ⟨rfl, rfl⟩, rfl, rfl⟩

theorem SameRegisters.rxDonePath (s : State) : SameRegisters s s.rxDonePath := by
  rw [State.rxDonePath_eq, State.endRx_eq]
  exact ⟨rfl, rfl, rfl, rfl, rfl, rfl, ⟨rfl, rfl⟩, rfl, rfl⟩

theorem State.fromIdle_radioState (s : State) : s.fromIdle.radioState = .idle := by
  unfold State.fromIdle
  split
  case isTrue h => exact h
  case isFalse => rfl

/-! ## Commands -/

theorem ModemParams.SameShape.valid {m n : ModemParams} (h : m.SameShape n) :
    m.rxValid = n.rxValid ∧ m.txValid = n.txValid := by
  unfold ModemParams.SameShape at h
  have hrx := congrArg ModemParams.rxValid h
  have htx := congrArg ModemParams.txValid h
  exact ⟨hrx, htx⟩

theorem writes_of_isConfiguration {i : Instr} (h : isConfiguration i = true) :
    writesModemParams i = true ∧ writesEngineConfig i = true ∧ ∀ r, radioTargets r i = [.idle] := by
  cases i with
  | setRxConfig c => exact ⟨rfl, rfl, fun _ => rfl⟩
  | setTxConfig c => exact ⟨rfl, rfl, fun _ => rfl⟩
  | setRxGenericConfig g c t => exact ⟨rfl, rfl, fun _ => rfl⟩
  | setTxGenericConfig g p t => exact ⟨rfl, rfl, fun _ => rfl⟩
  | _ => cases h

theorem Configures.streams {s : State} {m : ModemParams} {l : LongPacket} (h : Configures s m l) :
    l.whiteLfsr = s.lp.whiteLfsr ∧ l.crcLfsr = s.lp.crcLfsr := by
  obtain h | ⟨h, -⟩ := h.engine <;> rw [h] <;> exact ⟨rfl, rfl⟩

/-- The operands an accepted `Send` has (R212). -/
theorem State.of_sendRefusal_none {s : State} {size : Byte} (h : s.sendRefusal size = none) :
    s.mp.txValid = true ∧ s.mp.modem ≠ .sigfoxRx ∧ (s.lp.enable = true → size.toNat ≤ s.lp.maxLen.toNat) := by
  rw [State.sendRefusal_eq] at h
  split at h
  · cases h
  case isFalse hv =>
    split at h
    · cases h
    case isFalse hk =>
      split at h
      · cases h
      case isFalse hlong => exact ⟨by simpa using hv, hk, fun he => Nat.not_lt.1 fun hlt => hlong ⟨he, .inl hlt⟩⟩

theorem CommandBody.effect_configured {i : Instr} {s : State} {k : Nat} {m : ModemParams} {l : LongPacket}
    {os : List Output} (hi : isConfiguration i = true) (h : Configures s m l) : Effect i s (s.configured k m l os) := by
  obtain ⟨hmp, hengine, hradio⟩ := writes_of_isConfiguration hi
  exact {
    initialised := rfl, cbMask := rfl, fault := BitVec.and_self, rxValid := h.rxValid, txValid := h.txValid
    radio := .inr (by rw [hradio]; exact List.mem_singleton.2 rfl)
    irqMask := fun _ => rfl
    mp := fun hno => absurd (hmp.symm.trans hno) nofun
    engine := fun hno => absurd (hengine.symm.trans hno) nofun
    streams := fun _ => h.streams
    rxStage := fun _ => rfl
    radioBuffer := fun _ => rfl }

/-- A state made from one with the same registers: only the mask, the `MP` file, the two stream registers and `RadioBuffer`
are left to say. -/
theorem Effect.of_same {i : Instr} {s u t : State} (h : SameRegisters s u) (hinit : t.initialised = u.initialised)
    (hcb : t.cbMask = u.cbMask) (hfault : t.fault = u.fault) (hstage : t.rxStage = u.rxStage)
    (hengine : t.lp.configPart = u.lp.configPart)
    (hvalid : t.mp.rxValid = s.mp.rxValid ∧ t.mp.txValid = s.mp.txValid)
    (hradio : t.radioState ∈ radioTargets s.radioState i)
    (hmask : writesIrqMask i = false → t.irqMaskShadow = s.irqMaskShadow)
    (hmp : writesModemParams i = false → t.mp = s.mp)
    (hstreams : writesStreamRegisters i = false → t.lp.whiteLfsr = u.lp.whiteLfsr ∧ t.lp.crcLfsr = u.lp.crcLfsr)
    (hbuffer : usesRadioBuffer i = false → t.radioBuffer = u.radioBuffer) : Effect i s t where
  initialised := hinit.trans h.initialised
  cbMask := hcb.trans h.cbMask
  fault := by rw [hfault, h.fault, BitVec.and_self]
  rxValid := by rw [hvalid.1]; exact id
  txValid := by rw [hvalid.2]; exact id
  radio := .inr hradio
  irqMask := hmask
  mp := hmp
  engine _ := hengine.trans h.engine
  streams hno := ⟨(hstreams hno).1.trans h.streams.1, (hstreams hno).2.trans h.streams.2⟩
  rxStage _ := hstage.trans h.rxStage
  radioBuffer hno := (hbuffer hno).trans h.radioBuffer

theorem CommandBody.effect_send {s : State} {n : Byte} {d : List Byte} (h : s.sendRefusal n = none) :
    Effect (.send n d) s (s.send n d) := by
  obtain ⟨hv, hk, -⟩ := State.of_sendRefusal_none h
  have hsame := SameRegisters.fromIdle s
  cases he : s.lp.enable with
  | false =>
    rw [State.send_hardware he hk]
    by_cases hfox : s.mp.modem = .sigfoxTx
    all_goals
      simp only [hfox, if_true, if_false]
      exact .of_same hsame rfl rfl rfl rfl rfl ⟨rfl, rfl⟩ (List.mem_singleton.2 rfl) nofun nofun nofun nofun
  | true =>
    rw [State.send_rfw he]
    exact .of_same hsame rfl rfl rfl rfl rfl ⟨rfl, rfl⟩ (List.mem_singleton.2 rfl) nofun nofun nofun nofun

theorem CommandBody.effect_receive {s : State} {i : Instr} {timeout : U32} (boosted : Bool)
    (hi : i = .rx timeout ∨ i = .rxBoosted timeout) (he : s.lp.enable = false) :
    Effect i s (s.rxStart boosted timeout) := by
  rw [State.rxStart_hardware he]
  obtain rfl | rfl := hi <;>
    exact .of_same (.fromIdle s) rfl rfl rfl rfl rfl (by simp) (List.mem_singleton.2 rfl) nofun nofun
      (fun _ => ⟨rfl, rfl⟩) fun _ => rfl

theorem CommandBody.effect_receiveRfw {s : State} {i : Instr} {timeout : U32} (long boosted : Bool)
    (hi : i = .rx timeout ∨ i = .rxBoosted timeout ∨ i = .receiveLongPacket boosted timeout true)
    (he : s.lp.enable = true) : Effect i s (s.rfwRxStart long boosted timeout) := by
  rw [State.rfwRxStart_eq he]
  have hengine : s.lp.cleared.configPart = s.fromIdle.lp.configPart := (SameRegisters.fromIdle s).engine.symm
  have hstreams := (SameRegisters.fromIdle s).streams
  obtain rfl | rfl | rfl := hi <;>
    exact .of_same (.fromIdle s) rfl rfl rfl rfl hengine ⟨rfl, rfl⟩ (List.mem_singleton.2 rfl) nofun nofun
      (fun _ => ⟨hstreams.1.symm, hstreams.2.symm⟩) fun _ => rfl

theorem CommandBody.effect_transmitLong {s : State} {size : U16} {timeout : U32} {c : Bool}
    (h : s.transmitLongAllowed size c = true) :
    Effect (.transmitLongPacket size timeout c) s (s.transmitLong size timeout) := by
  obtain ⟨-, he, -⟩ := (s.transmitLongAllowed_iff size c).1 h
  have hle : firstLen s.fromIdle.lp size ≤ (s.fromIdle.transmitReady size).lp.remaining.toNat := firstLen_le _ _
  rw [State.transmitLong_eq he, State.lpTxChunk_of_le hle]
  have hvalid : s.fromIdle.mp.rxValid = s.mp.rxValid ∧ s.fromIdle.mp.txValid = s.mp.txValid := by
    rw [State.fromIdle_mp]
    exact ⟨rfl, rfl⟩
  refine .of_same (.fromIdle s) ?_ ?_ ?_ ?_ ?_ hvalid ?_ nofun nofun nofun nofun
  case refine_6 => exact List.mem_singleton.2 rfl
  all_goals rfl

theorem CommandBody.effect_wave (s : State) (freq : U32) (power : Byte) (seconds : U16) :
    Effect (.setTxContinuousWave freq power seconds) s (s.continuousWave freq power seconds) := by
  rw [State.continuousWave_eq]
  exact .of_same (.fromIdle s) rfl rfl rfl rfl rfl ⟨rfl, rfl⟩ (List.mem_singleton.2 rfl) nofun nofun
    (fun _ => ⟨rfl, rfl⟩) fun _ => rfl

/-! ## Events and expiries -/

theorem Effect.receiveEnded {i : Instr} {s u : State} (h : Effect i s u) (hi : .idle ∈ radioTargets s.radioState i)
    (b : Nat) (c : Callback) : Effect i s (u.receiveEnded b c) := { h with radio := .inr hi }

theorem Effect.receiveDone {i : Instr} {s u : State} (h : Effect i s u) (hi : .idle ∈ radioTargets s.radioState i) :
    Effect i s u.receiveDone := { h with radio := .inr hi }

theorem Effect.chunkScheduled {i : Instr} {s u : State} (h : Effect i s u) : Effect i s u.chunkScheduled := { h with }

theorem Effect.lengthAccepted {i : Instr} {s u : State} (h : Effect i s u) (len : U16) :
    Effect i s (u.lengthAccepted len) := { h with }

theorem Effect.engineRan {s : State} (white : BitVec 9) (crc : U16) (env : Environment) (os : List Output) :
    Effect .irqSyncWordValid s (s.engineRan white crc env os) :=
  { (SameRegisters.refl s).effect (.inl rfl) with streams := nofun }

theorem Effect.chunkRead (s : State) : Effect .expireChunkTimer s (s.tmrExpired .chunk).chunkRead :=
  { (SameRegisters.refl s).effect (.inl rfl) with streams := nofun }

theorem Effect.chunkStaged (s : State) : Effect .expireChunkTimer s (s.tmrExpired .chunk).chunkStaged :=
  { (SameRegisters.refl s).effect (.inl rfl) with streams := nofun, rxStage := nofun }

theorem Effect.txChunkExpiry (s : State) : Effect .expireChunkTimer s (s.tmrExpired .chunk).txChunkExpiry := by
  rw [State.txChunkExpiry_eq, State.lpTxChunk_of_le (Nat.min_le_right _ _)]
  exact { (SameRegisters.refl s).effect (.inl rfl) with streams := nofun, radioBuffer := nofun }

theorem Effect.lpHeader {s : State} (hr : s.radioState = .rxRunning) : Effect .irqSyncWordValid s s.lpHeader := by
  have hidle : RadioState.idle ∈ radioTargets s.radioState .irqSyncWordValid := by rw [hr]; exact List.mem_singleton.2 rfl
  obtain ⟨white, crc, env, os, -, ⟨b, c, -, h⟩ | ⟨len, -, h⟩⟩ := s.lpHeader_result
  · rw [h]
    exact (Effect.engineRan white crc env os).receiveEnded hidle b c
  · rw [h]
    exact .chunkScheduled (.lengthAccepted (.engineRan white crc env os) len)

theorem Effect.rxChunkExpiry {s : State} (hr : s.radioState = .rxRunning) :
    Effect .expireChunkTimer s (s.tmrExpired .chunk).rxChunkExpiry := by
  have hidle : RadioState.idle ∈ radioTargets s.radioState .expireChunkTimer := by rw [hr]; exact List.mem_singleton.2 rfl
  obtain ⟨u, rfl | rfl, h⟩ | h | ⟨-, -, h⟩ := (s.tmrExpired .chunk).rxChunkExpiry_result <;> rw [h]
  · exact (Effect.chunkRead s).receiveEnded hidle _ _
  · exact (Effect.chunkStaged s).receiveEnded hidle _ _
  · exact (Effect.chunkStaged s).receiveDone hidle
  · exact (Effect.chunkStaged s).chunkScheduled

theorem EventResult.effect {s t : State} {i : Instr} (h : EventResult s i t) : Effect i s t := by
  cases h with
  | dropped => exact (SameRegisters.refl s).effect (.inl rfl)
  | badEvent b => exact { (SameRegisters.refl s).effect (.inl rfl) with fault := and_or_self_bits _ _ }
  | disarmedTx => exact (SameRegisters.tmrExpired s .tx).effect (.inl rfl)
  | disarmedRx => exact (SameRegisters.tmrExpired s .rx).effect (.inl rfl)
  | disarmedChunk => exact (SameRegisters.tmrExpired s .chunk).effect (.inl rfl)
  | transmitEnded b hr hi hc =>
    refine (SameRegisters.transmitEnded s b _).effect (.inr ?_)
    rw [hr]
    obtain rfl | rfl | rfl := hi <;> exact List.mem_singleton.2 rfl
  | receiveTimedOut hr hi =>
    refine (SameRegisters.receiveEnded s _ _).effect (.inr ?_)
    rw [hr]
    obtain rfl | rfl := hi <;> exact List.mem_singleton.2 rfl
  | receiveFailed hr hd hi =>
    refine (SameRegisters.rxErrorPath s).effect (.inr ?_)
    rw [hr, State.rxErrorPath_eq]
    obtain rfl | rfl := hi <;> exact List.mem_singleton.2 rfl
  | receiveReported hr hd =>
    refine (SameRegisters.rxDonePath s).effect ?_
    rw [State.rxDonePath_eq, State.endRx_eq, hr]
    cases hcont : s.mp.rxContinuous
    · exact .inr (List.mem_singleton.2 rfl)
    · exact .inl rfl
  | cadEnded hr d =>
    refine (SameRegisters.cadDonePath s d).effect (.inr ?_)
    rw [hr, State.cadDonePath_eq]
    exact List.mem_singleton.2 rfl
  | header hr => exact .lpHeader hr
  | transmitChunk => exact .txChunkExpiry s
  | receiveChunk hr => exact .rxChunkExpiry hr

/-- An event moves `RadioState` to `Idle` or not at all. -/
theorem radioTargets_instrOfEvent (e : IrqEvent) (r : RadioState) : radioTargets r (instrOfEvent e) ⊆ [.idle] := by
  cases e <;> cases r <;> simp [instrOfEvent, radioTargets]

/-- The command that dispatches writes what the rows of the events write (R225). -/
theorem Effect.irqProcess {e : IrqEvent} {s t : State} (h : Effect (instrOfEvent e) s t) : Effect .irqProcess s t :=
  { h with
    radio := h.radio.imp_right fun hr => by
      have hsub : radioTargets s.radioState (instrOfEvent e) ⊆ [.idle] := radioTargets_instrOfEvent e _
      exact hsub hr
    irqMask := fun _ => h.irqMask (by cases e <;> rfl)
    mp := fun _ => h.mp (by cases e <;> rfl)
    engine := fun _ => h.engine (by cases e <;> rfl)
    streams := nofun
    rxStage := fun _ => h.rxStage (by cases e <;> rfl)
    radioBuffer := fun _ => h.radioBuffer (by cases e <;> rfl) }

theorem State.dispatchNext_effect (s : State) : Effect .irqProcess s s.dispatchNext := by
  cases hq : s.irqQ with
  | nil =>
    rw [State.dispatchNext_of_nil hq]
    exact (SameRegisters.refl s).effect (.inl rfl)
  | cons e q =>
    rw [State.dispatchNext_of_cons hq]
    exact { ((s.setIrqQ q).dispatchEvent_result e).effect.irqProcess with }

theorem CommandBody.effect {i : Instr} {s u : State} (h : CommandBody s i u) : Effect i s u := by
  cases h with
  | fields m os hi hm hmax hq =>
    exact { (SameRegisters.refl s).effect (.inl rfl) with
      rxValid := fun h => hm.valid.1.trans h
      txValid := fun h => hm.valid.2.trans h
      mp := fun hno => absurd (hi.symm.trans hno) nofun }
  | abort os hi hq =>
    obtain rfl | rfl := hi <;> exact { (SameRegisters.aborted s).effect (.inr (List.mem_singleton.2 rfl)) with }
  | random =>
    exact .of_same (.fromIdle s) rfl rfl rfl rfl rfl (by simp) (List.mem_singleton.2 s.fromIdle_radioState) nofun
      (fun _ => s.fromIdle_mp) (fun _ => ⟨rfl, rfl⟩) fun _ => rfl
  | configured hi hc hq => exact CommandBody.effect_configured hi hc
  | sense env hc hl hq =>
    exact {
      initialised := rfl, cbMask := rfl, fault := BitVec.and_self, rxValid := hc.rxValid, txValid := hc.txValid
      radio := .inr (List.mem_singleton.2 rfl), irqMask := nofun, mp := nofun, engine := nofun
      streams := fun _ => hc.streams, rxStage := fun _ => rfl, radioBuffer := fun _ => rfl }
  | send hs => exact CommandBody.effect_send hs
  | receive boosted hi he => exact CommandBody.effect_receive boosted hi he
  | receiveRfw long boosted hi he => exact CommandBody.effect_receiveRfw long boosted hi he
  | transmitLong hs => exact CommandBody.effect_transmitLong hs
  | cad =>
    exact .of_same (.fromIdle s) rfl rfl rfl rfl rfl (by simp) (List.mem_singleton.2 rfl) nofun (fun _ => s.fromIdle_mp)
      (fun _ => ⟨rfl, rfl⟩) fun _ => rfl
  | wave => exact CommandBody.effect_wave s _ _ _
  | dispatch => exact s.dispatchNext_effect

theorem CommandResult.effect {i : Instr} {s t : State} (h : CommandResult i s t) : Effect i s t := by
  cases h with
  | refused r => exact { (SameRegisters.refl s).effect (.inl rfl) with fault := and_or_self_bits _ _ }
  | answered k hq r => exact { (SameRegisters.refl s).effect (.inl rfl) with }
  | done hs hbody r => exact { hbody.effect with }

/-- The effect of every instruction but `Init`. -/
theorem exec_effect {i : Instr} {s t : State} (hinit : ∀ m, i ≠ .init m) (ht : exec i s = .next t) : Effect i s t := by
  cases hi : isCommand i with
  | true =>
    obtain ⟨u, hu, hresult⟩ := exec_command_result hi hinit s
    cases ht.symm.trans hu
    exact hresult.effect
  | false =>
    obtain ⟨u, hu, hresult⟩ := exec_event_result hi s
    cases ht.symm.trans hu
    exact hresult.effect

/-! ## Init -/

theorem exec_init_fault {m : Byte} {s t : State} (ht : exec (.init m) s = .next t) :
    t.fault = s.fault ∧ t.initialised = true ∧ t.radioState = .idle := by
  cases ht.symm.trans (exec_init_eq m s)
  exact ⟨rfl, rfl, rfl⟩

/-! ## The obligations -/

/-- Settles O17: `Init` stops in `Idle`; the rest is the effect of the instruction. -/
theorem radioStateMovesOnlyByTheTransitionTable : Obligations.RadioStateMovesOnlyByTheTransitionTable := by
  intro i s t ht
  by_cases hinit : ∃ m, i = .init m
  · obtain ⟨m, rfl⟩ := hinit
    exact .inr (List.mem_singleton.2 (exec_init_fault ht).2.2)
  · exact (exec_effect (fun m h => hinit ⟨m, h⟩) ht).radio

/-- Settles O18: `Init` writes every register; the rest is the effect of the instruction. -/
theorem registersChangeOnlyByTheirWriters : Obligations.RegistersChangeOnlyByTheirWriters := by
  intro i s t ht
  by_cases hinit : ∃ m, i = .init m
  · obtain ⟨m, rfl⟩ := hinit
    exact ⟨nofun, nofun, nofun, nofun, nofun, nofun⟩
  · have h := exec_effect (fun m h => hinit ⟨m, h⟩) ht
    exact ⟨h.irqMask, h.mp, h.engine, h.streams, h.rxStage, h.radioBuffer⟩

/-- What every step keeps of `Fault` and `Initialised` (R26, R23). -/
def KeepsSticky (s t : State) : Prop :=
  s.fault &&& t.fault = s.fault ∧ (s.initialised = true → t.initialised = true)

theorem exec_keepsSticky {i : Instr} {s t : State} (ht : exec i s = .next t) : KeepsSticky s t := by
  by_cases hinit : ∃ m, i = .init m
  · obtain ⟨m, rfl⟩ := hinit
    obtain ⟨hfault, hinit, -⟩ := exec_init_fault ht
    exact ⟨by rw [hfault, BitVec.and_self], fun _ => hinit⟩
  · have h := exec_effect (fun m h => hinit ⟨m, h⟩) ht
    exact ⟨h.fault, fun hs => h.initialised.trans hs⟩

theorem State.pushEvent_keepsSticky (s : State) (e : IrqEvent) : KeepsSticky s (s.pushEvent e) := by
  unfold State.pushEvent
  split
  · exact ⟨BitVec.and_self, id⟩
  · exact ⟨and_or_self_bits _ _, id⟩

theorem KeepsSticky.trans {s t u : State} (h : KeepsSticky s t) (h' : KeepsSticky t u) : KeepsSticky s u := by
  refine ⟨?_, h'.2 ∘ h.2⟩
  rw [← h.1, BitVec.and_assoc, h'.1]

theorem State.foldl_pushEvent_keepsSticky (es : List IrqEvent) (s : State) :
    KeepsSticky s (es.foldl State.pushEvent s) := by
  induction es generalizing s with
  | nil => exact ⟨BitVec.and_self, id⟩
  | cons e es ih => exact (s.pushEvent_keepsSticky e).trans (ih _)

theorem State.raiseIrq_keepsSticky (s : State) (v : U16) : KeepsSticky s (s.raiseIrq v) := by
  have hbad : KeepsSticky s { s with fault := s.fault ||| if v &&& 0xBC00 = 0 then 0 else 0x8 } :=
    ⟨and_or_self_bits _ _, id⟩
  rw [State.raiseIrq, State.raiseBadEvent_eq]
  exact hbad.trans (State.foldl_pushEvent_keepsSticky _ _)

theorem State.stepInput_keepsSticky {s t : State} {inp : Input} (ht : s.stepInput inp = .next t) : KeepsSticky s t := by
  cases inp with
  | command p =>
    cases hdec : decodeCommand p with
    | ok i => exact exec_keepsSticky (State.stepInput_command hdec s ▸ ht)
    | error err =>
      cases (State.stepInput_malformed hdec s).symm.trans ht
      exact ⟨and_or_self_bits _ _, id⟩
  | irq v =>
    cases ht
    exact s.raiseIrq_keepsSticky v
  | dispatch =>
    cases hq : s.irqQ with
    | nil =>
      cases (State.stepInput_dispatch_nil hq).symm.trans ht
      exact ⟨BitVec.and_self, id⟩
    | cons e q => exact exec_keepsSticky (s := s.setIrqQ q) (State.stepInput_dispatch_cons hq ▸ ht)
  | timer l =>
    cases hdec : decodeTimer l with
    | ok i => exact exec_keepsSticky (State.stepInput_timer hdec s ▸ ht)
    | error err =>
      cases (State.stepInput_badTimerLine hdec s).symm.trans ht
      exact ⟨and_or_self_bits _ _, id⟩

theorem State.takeInput_snd (s : State) : s.takeInput.2 = { s with env := s.takeInput.2.env } := by
  unfold State.takeInput
  split <;> rfl

/-- A step waits, or runs one input on the state with the input taken from the environment. -/
theorem step_cases {s t : State} (h : step s = .next t) :
    ∃ env, t = { s with env := env } ∨ ∃ inp, State.stepInput { s with env := env } inp = .next t := by
  unfold step at h
  split at h
  case h_1 inp u hu =>
    have hsnd : s.takeInput.2 = u := congrArg Prod.snd hu
    have henv : u = { s with env := u.env } := hsnd ▸ s.takeInput_snd
    exact ⟨u.env, .inr ⟨inp, henv ▸ h⟩⟩
  case h_2 u hu =>
    have hsnd : s.takeInput.2 = u := congrArg Prod.snd hu
    have henv : u = { s with env := u.env } := hsnd ▸ s.takeInput_snd
    cases h
    exact ⟨_, .inl henv⟩

/-- Settles O5. -/
theorem faultInitialisedCbMaskAndValidBitsPersist : Obligations.FaultInitialisedCbMaskAndValidBitsPersist := by
  refine ⟨fun s t ht => ?_, fun i s t hinit ht => ?_⟩
  · obtain ⟨env, rfl | ⟨inp, h⟩⟩ := step_cases ht
    · exact ⟨BitVec.and_self, id⟩
    · exact State.stepInput_keepsSticky (s := { s with env := env }) h
  · have h := exec_effect hinit ht
    exact ⟨h.initialised, h.cbMask, h.rxValid, h.txValid⟩

end Sys2Proof.Machine
end

section
/-! What a step emits (`20_memory.md` R85, `30_encoding.md` R102, `42_txrx_commands.md` R217, `60_exceptions.md` R354):
quiet outputs, then at most one terminal callback, then the response of a command; O6, O7 and O8. -/

namespace Sys2Proof.Machine

/-! ## Shapes of what is emitted -/

/-- `t` has quiet outputs more than `s`. -/
def Emits (s t : State) : Prop := ∃ os, t.trace = s.trace ++ os ∧ Quiet os

/-- A terminal callback was in order: the operation ran, and it is over or continuous. -/
def OperationEnded (s t : State) : Prop :=
  s.radioState ≠ .idle ∧ (t.radioState = .idle ∨ (t.radioState = .rxRunning ∧ s.mp.rxContinuous = true))

/-- `t` has outputs of one sort more than `s`, and then at most one terminal callback, which ends the operation. -/
def EmitsThenEnds (sort : Output → Bool) (s t : State) : Prop :=
  ∃ ops cbs, t.trace = s.trace ++ (ops ++ cbs) ∧ ops.all sort = true ∧ cbs.length ≤ 1 ∧
    (∀ o ∈ cbs, o.isTerminal = true) ∧ (cbs ≠ [] → OperationEnded s t)

theorem Emits.refl (s : State) : Emits s s := ⟨[], (List.append_nil _).symm, rfl⟩

theorem Emits.append {s u t : State} {os : List Output} (h : Emits s u) (ht : t.trace = u.trace ++ os) (hq : Quiet os) :
    Emits s t := by
  obtain ⟨pre, hpre, hquiet⟩ := h
  exact ⟨pre ++ os, by rw [ht, hpre, List.append_assoc], hquiet.append hq⟩

theorem Emits.thenEnds {s t : State} (h : Emits s t) : EmitsThenEnds Output.isQuiet s t := by
  obtain ⟨os, htrace, hq⟩ := h
  exact ⟨os, [], by rw [htrace, List.append_nil], hq, Nat.zero_le 1, nofun, nofun⟩

theorem EmitsThenEnds.quiet {s t : State} (h : EmitsThenEnds Output.isPlain s t) : EmitsThenEnds Output.isQuiet s t := by
  obtain ⟨ops, cbs, htrace, hplain, hrest⟩ := h
  exact ⟨ops, cbs, htrace, Quiet.of_plain hplain, hrest⟩

theorem EmitsThenEnds.of_outputs {sort : Output → Bool} {s t : State} {os : List Output} (ht : t.trace = s.trace ++ os)
    (hos : os.all sort = true) : EmitsThenEnds sort s t :=
  ⟨os, [], by rw [ht, List.append_nil], hos, Nat.zero_le 1, nofun, nofun⟩

theorem State.supplied_length (s : State) (b : Nat) (c : Callback) : (s.supplied b c).length ≤ 1 := by
  unfold State.supplied
  split
  · exact Nat.le_refl 1
  · exact Nat.zero_le 1

theorem State.supplied_terminal {c : Callback} (hc : (Output.cb c).isTerminal = true) (s : State) (b : Nat) :
    ∀ o ∈ s.supplied b c, o.isTerminal = true := by
  unfold State.supplied
  split
  · exact fun o ho => List.mem_singleton.1 ho ▸ hc
  · nofun

/-- The end of an operation: its operations, then its callback if the application supplied it. -/
theorem EmitsThenEnds.of_supplied {sort : Output → Bool} {s t v : State} {os : List Output} {b : Nat} {c : Callback}
    (ht : t.trace = s.trace ++ (os ++ v.supplied b c)) (hos : os.all sort = true)
    (hc : (Output.cb c).isTerminal = true) (hend : OperationEnded s t) : EmitsThenEnds sort s t :=
  ⟨os, v.supplied b c, ht, hos, v.supplied_length b c, v.supplied_terminal hc b, fun _ => hend⟩

/-! ## Events and expiries -/

theorem OperationEnded.of_idle {s t : State} (hs : s.radioState ≠ .idle) (ht : t.radioState = .idle) :
    OperationEnded s t := ⟨hs, .inl ht⟩

/-- A reception ended from a state that has emitted outputs of one sort. -/
theorem EmitsThenEnds.receiveEnded {sort : Output → Bool} {s u : State} {os : List Output}
    (hu : u.trace = s.trace ++ os) (hos : os.all sort = true) (hs : s.radioState ≠ .idle)
    (hsort : [Output.tmr (.stop .rx), .tmr (.stop .chunk), standbyOutput].all sort = true) (b : Nat) {c : Callback}
    (hc : (Output.cb c).isTerminal = true) : EmitsThenEnds sort s (u.receiveEnded b c) := by
  refine .of_supplied (os := os ++ [.tmr (.stop .rx), .tmr (.stop .chunk), standbyOutput]) (v := u) (b := b) (c := c) ?_
    ?_ hc (.of_idle hs rfl)
  · simp [State.receiveEnded, hu]
  · rw [List.all_append, hos, hsort]
    rfl

theorem EmitsThenEnds.receiveDone {s u : State} (hu : Emits s u) (hs : s.radioState ≠ .idle) :
    EmitsThenEnds Output.isQuiet s u.receiveDone := by
  obtain ⟨os, hos, hq⟩ := hu
  have hend : OperationEnded s u.receiveDone := .of_idle hs rfl
  let done : Callback := .rxDone (if u.lp.longMode then [] else u.rxStage.take u.lp.payloadLen.toNat) u.lp.payloadLen
    ((u.answer 0).setWidth 16) ((u.answer 1).setWidth 8)
  exact .of_supplied (os := os ++ [.tmr (.stop .rx), .tmr (.stop .chunk), standbyOutput, .ri .getPacketStatus]) (v := u)
    (b := 2) (c := done) (by simp [State.receiveDone, hos, done]) (hq.append rfl) rfl hend

theorem State.chunkScheduled_trace (s : State) :
    ∃ os, s.chunkScheduled.trace = s.trace ++ os ∧ os.all Output.isPlain = true := ⟨_, rfl, rfl⟩

theorem State.chunkRead_emits (s : State) : Emits s s.chunkRead := by
  refine (Emits.refl s).append rfl ?_
  split <;> rfl

theorem State.chunkStaged_emits (s : State) : Emits s s.chunkStaged := by
  refine s.chunkRead_emits.append rfl ?_
  split <;> rfl

theorem State.lpTxChunk_emits (s : State) (first : Bool) (n : Nat) : Emits s (s.lpTxChunk first n) := by
  rw [State.lpTxChunk_eq]
  have hcallback : Quiet (if n = 0 then [] else [.cb (.getNextChunk (BitVec.ofNat 16 n))]) := by split <;> rfl
  have hwrite (bytes : List Byte) : Quiet (ringWrite s.lp.bufOffset bytes) := .of_plain (ringWrite_plain _ _)
  have htimer (last : Bool) (ms : U32) :
      Quiet (if last = true then [] else [.tmr (.setValue .chunk ms), .tmr (.start .chunk)]) := by split <;> rfl
  exact ⟨_, (List.append_assoc _ _ _).trans (List.append_assoc _ _ _),
    hcallback.append ((hwrite (s.lp.txChunk first (s.nextBytes n)).1).append (htimer _ _))⟩

theorem State.lpHeader_emits {s : State} (hs : s.radioState ≠ .idle) : EmitsThenEnds Output.isPlain s s.lpHeader := by
  obtain ⟨white, crc, env, os, hos, ⟨b, c, hc, h⟩ | ⟨len, -, h⟩⟩ := s.lpHeader_result
  · rw [h]
    exact .receiveEnded rfl hos hs rfl b hc
  · obtain ⟨timer, htimer, hplain⟩ := State.chunkScheduled_trace ((s.engineRan white crc env os).lengthAccepted len)
    rw [h]
    refine .of_outputs (os := os ++ timer) (htimer.trans (List.append_assoc _ _ _)) ?_
    rw [List.all_append, hos, hplain]
    rfl

theorem State.rxChunkExpiry_emits {s : State} (hs : s.radioState ≠ .idle) :
    EmitsThenEnds Output.isQuiet s s.rxChunkExpiry := by
  obtain ⟨u, hu, h⟩ | h | ⟨-, -, h⟩ := s.rxChunkExpiry_result
  · have hemits : Emits s u := by
      obtain rfl | rfl := hu
      · exact s.chunkRead_emits
      · exact s.chunkStaged_emits
    obtain ⟨os, hos, hq⟩ := hemits
    rw [h]
    exact .receiveEnded hos hq hs rfl 4 rfl
  · rw [h]
    exact .receiveDone s.chunkStaged_emits hs
  · obtain ⟨timer, htimer, hplain⟩ := s.chunkStaged.chunkScheduled_trace
    rw [h]
    exact (s.chunkStaged_emits.append htimer (.of_plain hplain)).thenEnds

theorem State.rxDonePath_emits {s : State} (hr : s.radioState = .rxRunning) :
    EmitsThenEnds Output.isPlain s s.rxDonePath := by
  have hend : OperationEnded s s.rxDonePath := by
    refine ⟨by rw [hr]; nofun, ?_⟩
    rw [State.rxDonePath_eq, State.endRx_eq, hr]
    cases hcont : s.mp.rxContinuous
    · exact .inl rfl
    · exact .inr ⟨rfl, rfl⟩
  have hstandby : (if s.mp.rxContinuous = true then [] else [standbyOutput]).all Output.isPlain = true := by
    split <;> rfl
  have hread (n start : Byte) : (if n = 0 then [] else [Output.ri (.readBuffer start n)]).all Output.isPlain = true := by
    split <;> rfl
  let n : Byte := (s.endRx.answer 0).setWidth 8
  let start : Byte := (s.endRx.answer 1).setWidth 8
  let payload := (List.range n.toNat).map fun i => (s.endRx.answer (2 + i)).setWidth 8
  refine .of_supplied
    (os := [.tmr (.stop .rx)] ++ (if s.mp.rxContinuous = true then [] else [standbyOutput]) ++
      ([.ri .getRxBufferStatus] ++ (if n = 0 then [] else [.ri (.readBuffer start n)]) ++ [.ri .getPacketStatus]))
    (v := s.endRx) (b := 2)
    (c := .rxDone payload (n.setWidth 16) ((s.endRx.answer (2 + n.toNat)).setWidth 16)
      ((s.endRx.answer (3 + n.toNat)).setWidth 8)) ?_ ?_ rfl hend
  · have htrace : s.endRx.trace =
        s.trace ++ [.tmr (.stop .rx)] ++ (if s.mp.rxContinuous then [] else [standbyOutput]) := by rw [State.endRx_eq]
    rw [State.rxDonePath_eq]
    simp only [State.output, State.skipAnswers, htrace, List.append_assoc]
    rfl
  · simp only [List.all_append, hstandby, hread]
    rfl

/-- An event or an expiry but `ChunkTimer`'s emits plain operations. -/
theorem EventResult.emits_plain {s t : State} {i : Instr} (h : EventResult s i t) (hi : i ≠ .expireChunkTimer) :
    EmitsThenEnds Output.isPlain s t := by
  have hnone {t : State} (ht : t.trace = s.trace) : EmitsThenEnds Output.isPlain s t :=
    .of_outputs (os := []) (by rw [ht, List.append_nil]) rfl
  cases h with
  | dropped | badEvent | disarmedTx | disarmedRx => exact hnone rfl
  | disarmedChunk | transmitChunk | receiveChunk => exact absurd rfl hi
  | transmitEnded b hr _ hc =>
    exact .of_supplied (os := [.tmr (.stop .tx), .tmr (.stop .chunk), standbyOutput]) (List.append_assoc _ _ _) rfl hc
      (.of_idle (by rw [hr]; nofun) rfl)
  | receiveTimedOut hr => exact .receiveEnded (List.append_nil _).symm rfl (by rw [hr]; nofun) rfl 3 rfl
  | receiveFailed hr =>
    rw [State.rxErrorPath_eq]
    exact .of_supplied (os := [.tmr (.stop .rx), standbyOutput]) (List.append_assoc _ _ _) rfl rfl
      (.of_idle (by rw [hr]; nofun) rfl)
  | receiveReported hr => exact State.rxDonePath_emits hr
  | cadEnded hr d =>
    rw [State.cadDonePath_eq]
    exact .of_supplied (os := [standbyOutput]) (List.append_assoc _ _ _) rfl rfl (.of_idle (by rw [hr]; nofun) rfl)
  | header hr => exact State.lpHeader_emits (by rw [hr]; nofun)

theorem EventResult.emits {s t : State} {i : Instr} (h : EventResult s i t) : EmitsThenEnds Output.isQuiet s t := by
  by_cases hi : i = .expireChunkTimer
  · subst hi
    cases h with
    | dropped | disarmedChunk => exact (Emits.refl s).thenEnds
    | transmitEnded b hr hi => exact absurd hi (by simp)
    | receiveTimedOut hr hi => exact absurd hi (by simp)
    | receiveFailed hr hd hi => exact absurd hi (by simp)
    | transmitChunk => exact ((s.tmrExpired .chunk).lpTxChunk_emits false _).thenEnds
    | receiveChunk hr =>
      exact State.rxChunkExpiry_emits (s := s.tmrExpired .chunk) (fun h => by cases hr.symm.trans h)
  · exact (h.emits_plain hi).quiet

theorem State.dispatchEvent_emits (e : IrqEvent) (s : State) : EmitsThenEnds Output.isPlain s (s.dispatchEvent e) :=
  (s.dispatchEvent_result e).emits_plain (by cases e <;> nofun)

theorem State.dispatchNext_emits (s : State) : EmitsThenEnds Output.isQuiet s s.dispatchNext := by
  cases hq : s.irqQ with
  | nil =>
    rw [State.dispatchNext_of_nil hq]
    exact (Emits.refl s).thenEnds
  | cons e q =>
    rw [State.dispatchNext_of_cons hq]
    exact ((s.setIrqQ q).dispatchEvent_emits e).quiet

/-! ## Commands -/

theorem State.fromIdle_emits (s : State) : Emits s s.fromIdle := by
  obtain h | h := s.fromIdle_cases <;> rw [h]
  · exact .refl s
  · exact ⟨_, rfl, rfl⟩

theorem State.send_emits {s : State} {n : Byte} (h : s.sendRefusal n = none) (d : List Byte) : Emits s (s.send n d) := by
  obtain ⟨-, hk, -⟩ := State.of_sendRefusal_none h
  have hwrite (bytes : List Byte) : Quiet (ringWrite 0 bytes) := .of_plain (ringWrite_plain _ _)
  cases he : s.lp.enable with
  | false =>
    have hrecord : Quiet [.ri (.setDioIrqParams 0x0201), .ri (.setSwitch s.mp.antSel .tx),
        sendRecord s.mp n (sendLen s.mp.modem n)] := by
      unfold sendRecord
      split <;> rfl
    rw [State.send_hardware he hk]
    exact s.fromIdle_emits.append ((List.append_assoc _ _ _).trans (List.append_assoc _ _ _))
      (hrecord.append ((hwrite (sendBytes s.mp.modem d)).append rfl))
  | true =>
    rw [State.send_rfw he]
    exact s.fromIdle_emits.append ((List.append_assoc _ _ _).trans (List.append_assoc _ _ _))
      (Quiet.append (by exact rfl) ((hwrite (frameBytes s.lp (n.setWidth 16) d)).append rfl))

theorem State.rxStart_emits {s : State} (he : s.lp.enable = false) (boosted : Bool) (timeout : U32) :
    Emits s (s.rxStart boosted timeout) := by
  rw [State.rxStart_hardware he]
  exact s.fromIdle_emits.append (List.append_assoc _ _ _)
    (Quiet.append (by exact rfl) (.of_plain (receiveOutputs_plain s.mp.antSel boosted timeout)))

theorem State.rfwRxStart_emits {s : State} (he : s.lp.enable = true) (long boosted : Bool) (timeout : U32) :
    Emits s (s.rfwRxStart long boosted timeout) := by
  rw [State.rfwRxStart_eq he]
  exact s.fromIdle_emits.append (List.append_assoc _ _ _)
    (Quiet.append (by exact rfl) (.of_plain (receiveOutputs_plain s.mp.antSel boosted timeout)))

theorem State.transmitLong_emits {s : State} (he : s.lp.enable = true) (size : U16) (timeout : U32) :
    Emits s (s.transmitLong size timeout) := by
  rw [State.transmitLong_eq he]
  obtain ⟨os, hos, hq⟩ := (s.fromIdle.transmitReady size).lpTxChunk_emits true (firstLen s.fromIdle.lp size)
  have hready : Emits s (s.fromIdle.transmitReady size) := s.fromIdle_emits.append rfl rfl
  exact (hready.append hos hq).append rfl rfl

theorem State.configured_emits (s : State) (k : Nat) (m : ModemParams) (l : LongPacket) {os : List Output}
    (hq : Quiet os) : Emits s (s.configured k m l os) :=
  (Emits.refl s).append (s.configured_trace k m l os) (Quiet.append (by exact rfl) hq)

theorem CommandBody.emits {i : Instr} {s u : State} (h : CommandBody s i u) (hi : i ≠ .irqProcess) : Emits s u := by
  cases h with
  | fields m os _ _ _ hq => exact ⟨os, rfl, hq⟩
  | abort os _ hq => exact ⟨os, rfl, hq⟩
  | random => exact s.fromIdle_emits.append rfl rfl
  | configured _ _ hq => exact s.configured_emits _ _ _ hq
  | @sense _ _ _ _ m l _ env _ _ hq => exact s.configured_emits 0 m l hq
  | send hs => exact State.send_emits hs _
  | receive boosted _ he => exact State.rxStart_emits he _ _
  | receiveRfw long boosted _ he => exact State.rfwRxStart_emits he _ _ _
  | transmitLong hs => exact State.transmitLong_emits ((s.transmitLongAllowed_iff _ _).1 hs).2.1 _ _
  | cad => exact s.fromIdle_emits.append rfl rfl
  | wave =>
    rw [State.continuousWave_eq]
    exact s.fromIdle_emits.append rfl rfl
  | dispatch => exact absurd rfl hi

/-- A command ends in its response, whatever it emitted before (R102). -/
def Answers (s t : State) : Prop :=
  ∃ u r, EmitsThenEnds Output.isQuiet s u ∧ t.trace = u.trace ++ [.response r] ∧ t.radioState = u.radioState

theorem CommandResult.answers {i : Instr} {s t : State} (h : CommandResult i s t) : Answers s t := by
  cases h with
  | refused r => exact ⟨s, r, (Emits.refl s).thenEnds, rfl, rfl⟩
  | answered k hq r => exact ⟨_, r, Emits.thenEnds ⟨_, rfl, hq⟩, rfl, rfl⟩
  | done hs hbody r =>
    refine ⟨_, r, ?_, rfl, rfl⟩
    by_cases hi : i = .irqProcess
    · subst hi
      cases hbody with
      | dispatch => exact s.dispatchNext_emits
      | fields m os hi => cases hi
      | abort os hi => exact absurd hi (by simp)
      | configured hi => cases hi
      | receive boosted hi => exact absurd hi (by simp)
      | receiveRfw long boosted hi => exact absurd hi (by simp)
    · exact (hbody.emits hi).thenEnds

/-- A command but `IrqProcess` emits quiet outputs and its response. -/
theorem CommandResult.quiet {i : Instr} {s t : State} (h : CommandResult i s t) (hi : i ≠ .irqProcess) :
    ∃ os r, t.trace = s.trace ++ (os ++ [.response r]) ∧ Quiet os := by
  cases h with
  | refused r => exact ⟨[], r, rfl, rfl⟩
  | answered k hq r => exact ⟨_, r, List.append_assoc _ _ _, hq⟩
  | done hs hbody r =>
    obtain ⟨os, hos, hq⟩ := hbody.emits hi
    refine ⟨os, r, ?_, hq⟩
    rw [State.output, hos, List.append_assoc]

theorem exec_init_answers {m : Byte} {s t : State} (ht : exec (.init m) s = .next t) :
    ∃ r, t.trace = s.trace ++ [.tmr (.init .tx), .tmr (.init .rx), .tmr (.init .chunk), standbyOutput,
      .ri (.setDioIrqParams 0)] ++ [.response r] := by
  cases ht.symm.trans (exec_init_eq m s)
  exact ⟨statusOk, by rw [List.append_assoc]; rfl⟩

theorem exec_command_answers {i : Instr} {s t : State} (hi : isCommand i = true) (ht : exec i s = .next t) :
    Answers s t := by
  by_cases hinit : ∃ m, i = .init m
  · obtain ⟨m, rfl⟩ := hinit
    obtain ⟨r, hr⟩ := exec_init_answers ht
    refine ⟨{ s with radioState := t.radioState, trace := _ }, r, Emits.thenEnds ⟨_, rfl, ?_⟩, hr, rfl⟩
    rfl
  · obtain ⟨u, hu, hresult⟩ := exec_command_result hi (fun m h => hinit ⟨m, h⟩) s
    cases ht.symm.trans hu
    exact hresult.answers

/-- Settles O7: an event emits plain operations, then at most one terminal callback. -/
theorem dispatchEmitsOperationsThenAtMostOneCallback : Obligations.DispatchEmitsOperationsThenAtMostOneCallback := by
  intro e s
  obtain ⟨ops, cbs, htrace, hplain, hone, hterminal, -⟩ := s.dispatchEvent_emits e
  refine ⟨_, ops, cbs, exec_instrOfEvent e s, by rw [htrace, List.append_assoc], fun o ho => ?_, hone, hterminal⟩
  have ho := List.all_eq_true.1 hplain o ho
  cases o with
  | ri op => rfl
  | tmr op => rfl
  | cb c => cases ho
  | response r => cases ho

/-! ## Steps -/

theorem isCommand_of_decodeCommand {p : List Byte} {i : Instr} (h : decodeCommand p = .ok i) : isCommand i = true := by
  obtain ⟨-, henc⟩ := decodeCommand_eq_ok_iff.1 h
  cases i with
  | irqTxDone | irqRxDone | irqPreambleDetected | irqSyncWordValid | irqHeaderValid | irqHeaderError | irqCrcError
  | irqCadDone _ | irqTimeout | irqLrFhssHop | irqReserved _ | expireTxTimer | expireRxTimer | expireChunkTimer =>
    cases henc
  | _ => rfl

theorem isCommand_of_decodeTimer {l : Byte} {i : Instr} (h : decodeTimer l = .ok i) : isCommand i = false := by
  unfold decodeTimer at h
  repeat' split at h
  all_goals cases h <;> rfl

theorem State.foldl_pushEvent_trace (es : List IrqEvent) (s : State) :
    (es.foldl State.pushEvent s).trace = s.trace := by
  induction es generalizing s with
  | nil => rfl
  | cons e es ih =>
    rw [List.foldl_cons, ih]
    unfold State.pushEvent
    split <;> rfl

theorem State.raiseIrq_trace (s : State) (v : U16) : (s.raiseIrq v).trace = s.trace := by
  rw [State.raiseIrq, State.raiseBadEvent_eq, State.foldl_pushEvent_trace]

/-- What a step on an input emits: its quiet outputs and callback, and the response of a command. -/
theorem State.stepInput_emits {s t : State} {inp : Input} (ht : s.stepInput inp = .next t) :
    match inp with
    | .command _ => Answers s t
    | .irq _ | .dispatch | .timer _ => EmitsThenEnds Output.isQuiet s t := by
  cases inp with
  | command p =>
    cases hdec : decodeCommand p with
    | ok i => exact exec_command_answers (isCommand_of_decodeCommand hdec) (State.stepInput_command hdec s ▸ ht)
    | error err =>
      cases (State.stepInput_malformed hdec s).symm.trans ht
      exact ⟨s, _, (Emits.refl s).thenEnds, rfl, rfl⟩
  | irq v =>
    cases ht
    exact .of_outputs (os := []) (by rw [State.raiseIrq_trace, List.append_nil]) rfl
  | dispatch =>
    cases hq : s.irqQ with
    | nil =>
      cases (State.stepInput_dispatch_nil hq).symm.trans ht
      exact (Emits.refl s).thenEnds
    | cons e q =>
      have h := (State.stepInput_dispatch_cons hq).symm.trans ht
      cases (exec_instrOfEvent e (s.setIrqQ q)).symm.trans h
      exact ((s.setIrqQ q).dispatchEvent_emits e).quiet
  | timer l =>
    cases hdec : decodeTimer l with
    | ok i =>
      obtain ⟨u, hu, hresult⟩ := exec_event_result (isCommand_of_decodeTimer hdec) s
      cases (State.stepInput_timer hdec s ▸ ht).symm.trans hu
      exact hresult.emits
    | error err =>
      cases (State.stepInput_badTimerLine hdec s).symm.trans ht
      exact (Emits.refl s).thenEnds

/-- A quiet output or a terminal callback is none of the outputs that have rules of their own. -/
theorem Output.of_quiet_or_terminal {o : Output} (h : o.isQuiet = true ∨ o.isTerminal = true) :
    (o ≠ .ri .getOperatingMode ∧ ∀ k, o ≠ .cb (.fhssChangeChannel k)) ∧ ∀ p, o ≠ .response p := by
  refine ⟨⟨?_, fun k => ?_⟩, fun p => ?_⟩ <;> rintro rfl <;> exact h.elim nofun nofun

/-- The outputs of one step before its response. -/
theorem EmitsThenEnds.outputs {s t : State} (h : EmitsThenEnds Output.isQuiet s t) :
    ∃ os, t.trace = s.trace ++ os ∧
      (∀ o ∈ os, (o ≠ .ri .getOperatingMode ∧ ∀ k, o ≠ .cb (.fhssChangeChannel k)) ∧ ∀ p, o ≠ .response p) := by
  obtain ⟨ops, cbs, htrace, hquiet, -, hterminal, -⟩ := h
  refine ⟨ops ++ cbs, htrace, fun o ho => Output.of_quiet_or_terminal ?_⟩
  exact (List.mem_append.1 ho).imp (List.all_eq_true.1 hquiet o) (hterminal o)

/-- Settles O6. -/
theorem stepsAppendAndOnlyACommandAnswersOnceAtTheEnd :
    Obligations.StepsAppendAndOnlyACommandAnswersOnceAtTheEnd := by
  intro s t inp rest hinputs ht
  have hemits := State.stepInput_emits ((step_of_inputs hinputs).symm.trans ht)
  have hother (h : EmitsThenEnds Output.isQuiet { s with env := { s.env with inputs := rest } } t) :
      ∃ os, t.trace = s.trace ++ os ∧ (∀ o ∈ os, o ≠ .ri .getOperatingMode ∧ ∀ k, o ≠ .cb (.fhssChangeChannel k)) ∧
        ∀ o ∈ os, ∀ p, o ≠ .response p := by
    obtain ⟨os, htrace, hos⟩ := h.outputs
    exact ⟨os, htrace, fun o ho => (hos o ho).1, fun o ho => (hos o ho).2⟩
  cases inp with
  | command p =>
    obtain ⟨u, r, hu, htrace, -⟩ := hemits
    obtain ⟨os, hos, hplain⟩ := hu.outputs
    refine ⟨os ++ [.response r], ?_, fun o ho => ?_, os, r, rfl, fun o ho => (hplain o ho).2⟩
    · rw [htrace, hos, List.append_assoc]
    · obtain ho | ho := List.mem_append.1 ho
      · exact (hplain o ho).1
      · rw [List.mem_singleton.1 ho]
        exact ⟨nofun, nofun⟩
  | irq v => exact hother hemits
  | dispatch => exact hother hemits
  | timer l => exact hother hemits

theorem filter_terminal_of_quiet {os : List Output} (h : Quiet os) : os.filter Output.isTerminal = [] := by
  refine List.filter_eq_nil_iff.2 fun o ho hterminal => ?_
  have hquiet := List.all_eq_true.1 h o ho
  cases o with
  | cb c => cases c <;> cases hquiet <;> cases hterminal
  | ri op => cases hterminal
  | tmr op => cases hterminal
  | response r => cases hterminal

/-- A step's terminal callbacks are those at its end, with or without a response after them. -/
theorem EmitsThenEnds.terminal {s u t : State} (h : EmitsThenEnds Output.isQuiet s u) {tail : List Output}
    (htail : tail.filter Output.isTerminal = []) (ht : t.trace = u.trace ++ tail) (hr : t.radioState = u.radioState) :
    ∃ os, t.trace = s.trace ++ os ∧ (os.filter Output.isTerminal).length ≤ 1 ∧
      (os.filter Output.isTerminal ≠ [] → OperationEnded s t) := by
  obtain ⟨ops, cbs, htrace, hquiet, hone, hterminal, hend⟩ := h
  have hfilter : (ops ++ cbs ++ tail).filter Output.isTerminal = cbs := by
    rw [List.filter_append, List.filter_append, filter_terminal_of_quiet hquiet, htail, List.filter_eq_self.2 hterminal,
      List.nil_append, List.append_nil]
  refine ⟨ops ++ cbs ++ tail, by rw [ht, htrace, List.append_assoc], ?_, fun hne => ?_⟩
  · rw [hfilter]; exact hone
  · rw [hfilter] at hne
    unfold OperationEnded
    rw [hr]
    exact hend hne

/-- Settles O8. -/
theorem terminalCallbacksEndARunningOperation : Obligations.TerminalCallbacksEndARunningOperation := by
  refine ⟨fun s t ht => ?_, fun i s t hi hprocess ht => ?_⟩
  · obtain ⟨env, rfl | ⟨inp, h⟩⟩ := step_cases ht
    · exact ⟨[], (List.append_nil _).symm, Nat.zero_le 1, nofun⟩
    have hemits := State.stepInput_emits h
    have hother (h : EmitsThenEnds Output.isQuiet { s with env := env } t) :=
      h.terminal rfl (List.append_nil _).symm rfl
    cases inp with
    | command p =>
      obtain ⟨u, r, hu, htrace, hradio⟩ := hemits
      exact hu.terminal rfl htrace hradio
    | irq v => exact hother hemits
    | dispatch => exact hother hemits
    | timer l => exact hother hemits
  · by_cases hinit : ∃ m, i = .init m
    · obtain ⟨m, rfl⟩ := hinit
      obtain ⟨r, hr⟩ := exec_init_answers ht
      exact ⟨_, hr.trans (List.append_assoc _ _ _), rfl⟩
    · obtain ⟨u, hu, hresult⟩ := exec_command_result hi (fun m h => hinit ⟨m, h⟩) s
      cases ht.symm.trans hu
      obtain ⟨os, r, htrace, hquiet⟩ := hresult.quiet hprocess
      exact ⟨os ++ [.response r], htrace, by rw [List.filter_append, filter_terminal_of_quiet hquiet]; rfl⟩

end Sys2Proof.Machine
end

section
/-! Every step keeps the invariant (`10_state.md` R23 to R38, `43_long_packet.md` R299): O3. The invariant is proved of
the states the shared ends and starts of an operation leave, then carried along the lists of what an instruction can do. -/

namespace Sys2Proof.Machine

/-! ## The parts of the invariant -/

/-- The parts of the invariant no transfer changes. -/
structure State.Steady (s : State) : Prop where
  queue : s.QueueInv
  params : s.mp.Inv
  engine : s.RfwInv
  buffers : s.BufferInv

/-- No transfer is under way, and no chunk is due. -/
structure LongPacket.NoTransfer (l : LongPacket) (chunkTimer : Timer) : Prop where
  phase : l.phase = .idle
  dir : l.dir = .none
  longMode : l.longMode = false
  chunkCb : l.chunkCb = false
  chunkTimer : chunkTimer.armed = false

theorem State.Inv.steady {s : State} (h : s.Inv) : s.Steady := by
  obtain ⟨hq, hmp, hrfw, -, -, -, -, hbuf, -⟩ := h
  exact ⟨hq, hmp, hrfw, hbuf⟩

theorem State.Inv.sequence {s : State} (h : s.Inv) : s.SequenceInv := by
  obtain ⟨-, -, -, hseq, -⟩ := h
  exact hseq

theorem State.Inv.timers {s : State} (h : s.Inv) : s.TimerInv := by
  obtain ⟨-, -, -, -, -, -, htimer, -⟩ := h
  exact htimer

theorem State.Inv.preInit {s : State} (h : s.Inv) : s.PreInitInv := by
  obtain ⟨-, -, -, -, -, -, -, -, hpre⟩ := h
  exact hpre

theorem State.preInit_of_initialised {s : State} (h : s.initialised = true) : s.PreInitInv := fun hs => by
  rw [h] at hs; cases hs

/-- Outside `Idle` the unit is initialised. -/
theorem State.Inv.initialised_of_running {s : State} (h : s.Inv) (hr : s.radioState ≠ .idle) : s.initialised = true := by
  by_contra hs
  exact hr (h.preInit (Bool.eq_false_iff.2 hs)).1

/-- Without a transfer the invariant is its steady parts and the two operation timers. -/
theorem State.inv_of_noTransfer {s : State} (hs : s.Steady) (h : s.lp.NoTransfer s.chunkTimer)
    (htx : s.txTimer.armed = true ↔ s.radioState = .txRunning)
    (hrx : s.rxTimer.armed = true → s.radioState = .rxRunning)
    (hengine : s.radioState = .rxRunning → s.lp.enable = false) (hpre : s.PreInitInv) : s.Inv := by
  obtain ⟨hphase, hdir, hlong, hcb, hchunk⟩ := h
  refine ⟨hs.queue, hs.params, hs.engine, ?_, ?_, ?_, ⟨htx, hrx, ?_⟩, hs.buffers, hpre⟩
  · exact ⟨by simp [hphase, hdir], by simp [hdir], by simp [hdir], by simp [hdir],
      fun hr he => by simp [hengine hr] at he, hcb.trans hlong.symm, fun _ => hlong⟩
  · simp [LongPacket.TxInv, hdir]
  · simp [LongPacket.RxInv, hdir]
  · simp [hchunk, hphase]

/-- Without a transfer's direction there is no transfer. -/
theorem State.Inv.noTransfer {s : State} (h : s.Inv) (hdir : s.lp.dir = .none) : s.lp.NoTransfer s.chunkTimer := by
  obtain ⟨hphase, -, -, -, -, hcb, hlong⟩ := h.sequence
  obtain ⟨-, -, hchunk⟩ := h.timers
  have hidle := hphase.2 hdir
  refine ⟨hidle, hdir, hlong hdir, hcb.trans (hlong hdir), Bool.eq_false_iff.2 fun harmed => ?_⟩
  simpa [hidle] using hchunk.1 harmed

/-- A transfer runs in its own `RadioState`. -/
theorem State.Inv.dir_none {s : State} (h : s.Inv) (htx : s.radioState ≠ .txRunning) (hrx : s.radioState ≠ .rxRunning) :
    s.lp.dir = .none := by
  obtain ⟨-, hdtx, hdrx, -⟩ := h.sequence
  cases hd : s.lp.dir with
  | none => rfl
  | tx => exact absurd (hdtx hd) htx
  | rx => exact absurd (hdrx hd) hrx

theorem State.Inv.txTimer_off {s : State} (h : s.Inv) (hr : s.radioState ≠ .txRunning) : s.txTimer.armed = false :=
  Bool.eq_false_iff.2 fun harmed => hr (h.timers.1.1 harmed)

theorem State.Inv.rxTimer_off {s : State} (h : s.Inv) (hr : s.radioState ≠ .rxRunning) : s.rxTimer.armed = false :=
  Bool.eq_false_iff.2 fun harmed => hr (h.timers.2.1 harmed)

/-! ## The idle states -/

/-- In `Idle`, with both operation timers off and no transfer. -/
structure State.AtRest (s : State) : Prop where
  radio : s.radioState = .idle
  noTransfer : s.lp.NoTransfer s.chunkTimer
  txTimer : s.txTimer.armed = false
  rxTimer : s.rxTimer.armed = false

theorem State.AtRest.inv {s : State} (h : s.AtRest) (hs : s.Steady) (hpre : s.PreInitInv) : s.Inv :=
  State.inv_of_noTransfer hs h.noTransfer (by simp [h.txTimer, h.radio]) (by simp [h.rxTimer]) (by simp [h.radio]) hpre

theorem State.Inv.atRest {s : State} (h : s.Inv) (hr : s.radioState = .idle) : s.AtRest where
  radio := hr
  noTransfer := h.noTransfer (h.dir_none (by simp [hr]) (by simp [hr]))
  txTimer := h.txTimer_off (by simp [hr])
  rxTimer := h.rxTimer_off (by simp [hr])

theorem State.aborted_atRest (s : State) : s.aborted.AtRest := ⟨rfl, ⟨rfl, rfl, rfl, rfl, rfl⟩, rfl, rfl⟩

/-- An emptied queue under one of the five masks. -/
theorem queueInv_of_nil {s : State} (hq : s.irqQ = [])
    (hmask : s.irqMaskShadow ∈ [maskNone, maskTx, maskRx, maskRfwRx, maskCad]) : s.QueueInv := by
  refine ⟨?_, hmask, ?_⟩ <;> simp [hq]

theorem State.Steady.aborted {s : State} (h : s.Steady) : s.aborted.Steady :=
  ⟨queueInv_of_nil rfl h.queue.2.1, h.params, h.engine, h.buffers⟩

theorem State.Inv.fromIdle_atRest {s : State} (h : s.Inv) : s.fromIdle.AtRest := by
  unfold State.fromIdle
  split
  case isTrue hr => exact h.atRest hr
  case isFalse => exact s.aborted_atRest

/-! ## Parameters no invariant speaks of -/

theorem ModemParams.SameShape.inv {m n : ModemParams} (h : m.SameShape n) (hn : n.Inv) : m.Inv := by
  rw [ModemParams.SameShape] at h
  rw [h]
  exact hn

/-- The engine's configuration follows the `MP` file in fields of its shape and in the longest payload. -/
theorem ModemParams.SameShape.rfwInv {s t : State} (h : t.mp.SameShape s.mp) (hlp : t.lp.cleared = s.lp.cleared)
    (hmax : s.lp.enable = true → t.mp.maxPayloadLen = s.mp.maxPayloadLen) (hs : s.RfwInv) : t.RfwInv := by
  have hparams : State.RfwInv { s with mp := t.mp } := fun he => by
    have hmax := hmax he
    rw [ModemParams.SameShape] at h
    rw [h]
    simp only [hmax]
    exact hs he
  change State.RfwInv { t with lp := t.lp.cleared }
  rw [hlp]
  exact hparams

/-! ## Starts without a transfer -/

/-- A start from `Idle` that begins no transfer: it empties the queue, arms one of the five masks and keeps the engine. -/
theorem State.Inv.started {s t : State} (h : s.Inv) (hinit : t.initialised = true) (hq : t.irqQ = []) {mask : U16}
    (hmask : mask ∈ [maskNone, maskTx, maskRx, maskRfwRx, maskCad]) (hm : t.irqMaskShadow = mask)
    (hmp : t.mp.SameShape s.mp) (hmax : t.mp.maxPayloadLen = s.mp.maxPayloadLen) (hlp : t.lp = s.fromIdle.lp)
    (hchunk : t.chunkTimer = s.fromIdle.chunkTimer) (hstage : t.rxStage = s.rxStage) (hbuf : t.radioBuffer.length = 256)
    (htx : t.txTimer.armed = true ↔ t.radioState = .txRunning)
    (hrx : t.rxTimer.armed = true → t.radioState = .rxRunning)
    (hengine : t.radioState = .rxRunning → t.lp.enable = false) : t.Inv := by
  obtain ⟨hstage', -⟩ := h.steady.buffers
  have hcleared : t.lp.cleared = s.lp.cleared := hlp ▸ s.fromIdle_cleared
  refine State.inv_of_noTransfer ⟨queueInv_of_nil hq (hm ▸ hmask), hmp.inv h.steady.params,
    hmp.rfwInv hcleared (fun _ => hmax) h.steady.engine, hstage ▸ hstage', hbuf⟩ ?_ htx hrx hengine
    (State.preInit_of_initialised hinit)
  rw [hlp, hchunk]
  exact h.fromIdle_atRest.noTransfer

theorem State.Inv.fromIdle_timers {s : State} (h : s.Inv) :
    s.fromIdle.txTimer.armed = false ∧ s.fromIdle.rxTimer.armed = false :=
  ⟨h.fromIdle_atRest.txTimer, h.fromIdle_atRest.rxTimer⟩

theorem State.fromIdle_sameShape (s : State) : s.fromIdle.mp.SameShape s.mp := by
  rw [s.fromIdle_mp]
  rfl

theorem State.Inv.fromIdle_radioBuffer {s : State} (h : s.Inv) : s.fromIdle.radioBuffer.length = 256 :=
  (congrArg _ s.fromIdle_radioBuffer).trans h.steady.buffers.2

theorem State.useRadioBuffer_length (s : State) : s.useRadioBuffer.radioBuffer.length = 256 := by simp

theorem State.Inv.random {s : State} (h : s.Inv) (hs : s.initialised = true) (trace : List Output) :
    State.Inv { s.fromIdle.skipAnswers 1 with irqQ := [], irqMaskShadow := maskNone, trace := trace } := by
  have hidle := h.fromIdle_atRest.radio
  refine h.started (s.fromIdle_initialised.trans hs) rfl (mask := maskNone) (by decide) rfl s.fromIdle_sameShape
    (congrArg _ s.fromIdle_mp) rfl rfl s.fromIdle_rxStage h.fromIdle_radioBuffer ?_ ?_ ?_
  all_goals simp [h.fromIdle_timers, hidle]

theorem State.Inv.rxStart {s : State} (h : s.Inv) (hs : s.initialised = true) (he : s.lp.enable = false) (boosted : Bool)
    (timeout : U32) : (s.rxStart boosted timeout).Inv := by
  rw [State.rxStart_hardware he]
  refine h.started (s.fromIdle_initialised.trans hs) rfl (mask := maskRx) (by decide) rfl s.fromIdle_sameShape
    (congrArg _ s.fromIdle_mp) rfl rfl s.fromIdle_rxStage h.fromIdle_radioBuffer ?_ (fun _ => rfl)
    fun _ => s.fromIdle_enable.trans he
  simp [h.fromIdle_timers]

theorem State.Inv.cad {s : State} (h : s.Inv) (hs : s.initialised = true) (trace : List Output) :
    State.Inv { s.fromIdle with radioState := .cad, irqQ := [], irqMaskShadow := maskCad, trace := trace } := by
  refine h.started (s.fromIdle_initialised.trans hs) rfl (mask := maskCad) (by decide) rfl s.fromIdle_sameShape
    (congrArg _ s.fromIdle_mp) rfl rfl s.fromIdle_rxStage h.fromIdle_radioBuffer ?_ ?_ nofun
  all_goals simp [h.fromIdle_timers]

theorem State.Inv.wave {s : State} (h : s.Inv) (hs : s.initialised = true) (freq : U32) (power : Byte) (seconds : U16) :
    (s.continuousWave freq power seconds).Inv := by
  rw [State.continuousWave_eq]
  refine h.started (s.fromIdle_initialised.trans hs) rfl (mask := maskNone) (by decide) rfl rfl rfl rfl rfl
    s.fromIdle_rxStage h.fromIdle_radioBuffer ?_ ?_ nofun
  all_goals simp [h.fromIdle_timers]

theorem State.Inv.sendHardware {s : State} (h : s.Inv) (hs : s.initialised = true) (he : s.lp.enable = false)
    (hk : s.mp.modem ≠ .sigfoxRx) (n : Byte) (d : List Byte) : (s.send n d).Inv := by
  have hdraw : (if s.mp.modem = .sigfoxTx then s.fromIdle.useRadioBuffer else s.fromIdle) = s.fromIdle.useRadioBuffer ∨
      (if s.mp.modem = .sigfoxTx then s.fromIdle.useRadioBuffer else s.fromIdle) = s.fromIdle := ite_eq_or_eq _ _ _
  rw [State.send_hardware he hk]
  simp only
  obtain hu | hu := hdraw <;> rw [hu]
  · refine h.started (s.fromIdle_initialised.trans hs) rfl (mask := maskTx) (by decide) rfl rfl rfl rfl rfl
      s.fromIdle_rxStage s.fromIdle.useRadioBuffer_length ?_ ?_ nofun
    all_goals simp [h.fromIdle_timers]
  · refine h.started (s.fromIdle_initialised.trans hs) rfl (mask := maskTx) (by decide) rfl rfl rfl rfl rfl
      s.fromIdle_rxStage h.fromIdle_radioBuffer ?_ ?_ nofun
    all_goals simp [h.fromIdle_timers]

/-! ## Aborts and configurations -/

theorem State.Inv.abortedWith {s : State} (h : s.Inv) (hs : s.initialised = true) (trace : List Output) :
    State.Inv { s.aborted with trace := trace } :=
  s.aborted_atRest.inv h.steady.aborted (State.preInit_of_initialised (s := s.aborted) hs)

theorem Configures.noTransfer {s : State} {m : ModemParams} {l : LongPacket} (h : Configures s m l) :
    l.NoTransfer s.aborted.chunkTimer := by
  obtain rfl | ⟨rfl, -⟩ := h.engine <;> exact ⟨rfl, rfl, rfl, rfl, rfl⟩

theorem Configures.rfwInv {s t : State} {m : ModemParams} {l : LongPacket} (h : Configures s m l) (hm : t.mp = m)
    (hl : t.lp = l) : t.RfwInv := by
  intro he
  obtain hdisabled | ⟨hrfw, hrange⟩ := h.engine
  · rw [hl, hdisabled] at he
    cases he
  · obtain ⟨hmode, hvalid, hother, hrate, hframe, hshort⟩ := hrange
    rw [hl, hrfw, hm]
    exact ⟨hmode, hvalid, rfl, rfl, rfl, rfl, rfl, rfl, rfl, hother, hrate, hframe, hshort⟩

theorem State.Inv.configured {s : State} (h : s.Inv) (hs : s.initialised = true) {m : ModemParams} {l : LongPacket}
    (hconf : Configures s m l) (k : Nat) (os : List Output) : (s.configured k m l os).Inv :=
  State.AtRest.inv ⟨rfl, hconf.noTransfer, rfl, rfl⟩
    ⟨queueInv_of_nil rfl h.steady.queue.2.1, hconf.inv h.steady.params, hconf.rfwInv rfl rfl, h.steady.buffers⟩
    (State.preInit_of_initialised hs)

theorem State.Inv.sensed {s : State} (h : s.Inv) (hs : s.initialised = true) {m : ModemParams} {l : LongPacket}
    (hconf : Configures s m l) (os : List Output) (env : Environment) :
    State.Inv { s.configured 0 m l os with irqQ := [], irqMaskShadow := maskNone, env := env } :=
  State.AtRest.inv ⟨rfl, hconf.noTransfer, rfl, rfl⟩
    ⟨queueInv_of_nil rfl (show maskNone ∈ _ by decide), hconf.inv h.steady.params, hconf.rfwInv rfl rfl,
      h.steady.buffers⟩
    (State.preInit_of_initialised hs)

/-! ## Transmit chunks -/

/-- A transmission with `TxTimer` armed alone, but for its working registers. -/
structure State.Transmitting (s : State) : Prop where
  steady : s.Steady
  initialised : s.initialised = true
  radio : s.radioState = .txRunning
  enable : s.lp.enable = true
  dir : s.lp.dir = .tx
  chunkCb : s.lp.chunkCb = s.lp.longMode
  txTimer : s.txTimer.armed = true
  rxTimer : s.rxTimer.armed = false

/-- The invariant of a transmission: a chunk is due exactly while streaming. -/
theorem State.Transmitting.inv {s : State} (h : s.Transmitting) (htx : s.lp.TxInv) (hphase : s.lp.phase ≠ .idle)
    (hchunk : s.chunkTimer.armed = true ↔ s.lp.phase = .streaming) : s.Inv := by
  refine ⟨h.steady.queue, h.steady.params, h.steady.engine, ?_, htx, ?_, ?_, h.steady.buffers, ?_⟩
  · simp [State.SequenceInv, h.radio, h.enable, h.dir, h.chunkCb, hphase]
  · simp [LongPacket.RxInv, h.dir]
  · simp [State.TimerInv, h.radio, h.txTimer, h.rxTimer, h.dir, hchunk]
  · exact State.preInit_of_initialised h.initialised

/-- The payload and the frame in range, and the ring offset, `header` bytes on, behind the bytes before the payload that
remains. -/
structure LongPacket.Progress (l : LongPacket) (header : Nat) : Prop where
  payload : l.remaining.toNat ≤ l.payloadLen.toNat
  max : l.payloadLen.toNat ≤ l.maxLen.toNat
  total : l.total.toNat = lenBytesOf l.lenW + l.payloadLen.toNat + crcBytesOf l.crcW
  offset : l.bufOffset + BitVec.ofNat 8 header =
    BitVec.ofNat 8 (lenBytesOf l.lenW + (l.payloadLen.toNat - l.remaining.toNat))

theorem LongPacket.chunkPlain_length (l : LongPacket) (first last : Bool) (d : List Byte) :
    (l.chunkPlain first last d).length =
      (if first then lenBytesOf l.lenW else 0) + d.length + (if last then crcBytesOf l.crcW else 0) := by
  unfold LongPacket.chunkPlain LongPacket.chunkBody
  cases first <;> cases last <;> simp [Nat.add_assoc]

/-- An offset moves with the bytes counted. -/
theorem offset_add {x : Byte} {a b : Nat} (h : x + BitVec.ofNat 8 a = BitVec.ofNat 8 b) (k : Nat) :
    x + BitVec.ofNat 8 (a + k) = BitVec.ofNat 8 (b + k) := by
  rw [BitVec.ofNat_add, BitVec.ofNat_add, ← BitVec.add_assoc, h]

theorem toNat_sub_ofNat {r : U16} {n : Nat} (h : n ≤ r.toNat) : (r - BitVec.ofNat 16 n).toNat = r.toNat - n := by
  have := r.isLt
  rw [BitVec.toNat_sub_of_le] <;> simp [BitVec.le_def] <;> omega

/-- A chunk leaves the working registers as the bytes sent say (R281). -/
theorem LongPacket.Progress.txInv {l l' : LongPacket} {first : Bool} {n : Nat} {d : List Byte}
    (h : l.Progress (if first then lenBytesOf l.lenW else 0)) (hn : n ≤ l.remaining.toNat) (hd : d.length = n)
    (hlast : l'.phase = if decide (n = l.remaining.toNat) then .lastChunk else .streaming)
    (hrem : l'.remaining = l.remaining - BitVec.ofNat 16 n)
    (hoff : l'.bufOffset =
      l.bufOffset + BitVec.ofNat 8 (l.chunkPlain first (decide (n = l.remaining.toNat)) d).length)
    (hsame : l'.payloadLen = l.payloadLen ∧ l'.maxLen = l.maxLen ∧ l'.total = l.total ∧ l'.lenW = l.lenW ∧
      l'.crcW = l.crcW) : l'.TxInv := by
  obtain ⟨hpay, hmax, htotal, hlen, hcrc⟩ := hsame
  have hremaining : l'.remaining.toNat = l.remaining.toNat - n := hrem ▸ toNat_sub_ofNat hn
  have hzero : l'.remaining = 0 ↔ n = l.remaining.toNat := hrem ▸ remaining_eq_zero_iff hn
  have hsent : l'.bytesSent = lenBytesOf l.lenW + (l.payloadLen.toNat - l.remaining.toNat) + n +
      (if decide (n = l.remaining.toNat) then crcBytesOf l.crcW else 0) := by
    have := h.payload
    unfold LongPacket.bytesSent
    rw [hlast, hremaining, hpay, hlen, hcrc]
    by_cases hn' : n = l.remaining.toNat <;> simp [hn'] <;> omega
  intro _
  refine ⟨?_, ?_, ?_, ?_, ?_, ?_, ?_⟩
  · rw [hlast]; split <;> nofun
  · rw [hlast, Ne, hzero]; by_cases hn' : n = l.remaining.toNat <;> simp [hn']
  · rw [hlast, hzero]; by_cases hn' : n = l.remaining.toNat <;> simp [hn']
  · rw [hremaining, hpay]; exact (Nat.sub_le _ _).trans h.payload
  · rw [hpay, hmax]; exact h.max
  · rw [htotal, hpay, hlen, hcrc]; exact h.total
  · rw [hsent, hoff, LongPacket.chunkPlain_length, hd]
    exact offset_add (offset_add h.offset n) _

/-- A chunk keeps the invariant, whether it is the first or one an expiry writes (R281). -/
theorem State.Transmitting.inv_lpTxChunk {s : State} {first : Bool} {n : Nat} (h : s.Transmitting)
    (hchunk : s.chunkTimer.armed = false) (hprogress : s.lp.Progress (if first then lenBytesOf s.lp.lenW else 0))
    (hn : n ≤ s.lp.remaining.toNat) :
    (s.lpTxChunk first n).Inv := by
  rw [State.lpTxChunk_of_le hn]
  refine State.Transmitting.inv
    ⟨⟨h.steady.queue, h.steady.params, h.steady.engine, h.steady.buffers.1, State.useRadioBuffer_length _⟩,
      h.initialised, h.radio, h.enable, h.dir, h.chunkCb, h.txTimer, h.rxTimer⟩
    (hprogress.txInv hn (s.nextBytes_length n) rfl rfl rfl ⟨rfl, rfl, rfl, rfl, rfl⟩) ?_ ?_
  · simp only; split <;> nofun
  · simp only
    by_cases hn' : n = s.lp.remaining.toNat <;> simp [hn', hchunk]

/-! ## Transmissions in RFW mode -/

theorem State.Inv.fromIdle {s : State} (h : s.Inv) : s.fromIdle.Inv := by
  obtain hu | hu := s.fromIdle_cases <;> rw [hu]
  · exact h
  · refine s.aborted_atRest.inv h.steady.aborted fun hs => ?_
    obtain ⟨-, hmask, -, hvalid⟩ := h.preInit hs
    exact ⟨rfl, hmask, rfl, hvalid⟩

theorem State.fromIdle_widths (s : State) :
    s.fromIdle.lp.lenW = s.lp.lenW ∧ s.fromIdle.lp.crcW = s.lp.crcW ∧ s.fromIdle.lp.maxLen = s.lp.maxLen := by
  obtain hu | hu := s.fromIdle_cases <;> rw [hu] <;> exact ⟨rfl, rfl, rfl⟩

theorem toNat_ofNat_frameLength (l : LongPacket) (size : U16) :
    (BitVec.ofNat 32 (lenBytesOf l.lenW + size.toNat + crcBytesOf l.crcW)).toNat =
      lenBytesOf l.lenW + size.toNat + crcBytesOf l.crcW := by
  rw [BitVec.toNat_ofNat]
  exact Nat.mod_eq_of_lt (frameLength_lt l size)

/-- `s` at the first chunk of a long transmission, its timer armed and the transmitter started. -/
def State.transmitStarted (s : State) (size : U16) (timeout : U32) : State :=
  { s.transmitReady size with radioState := .txRunning, txTimer := ⟨true, timeout⟩ }

theorem State.Inv.transmitStarted {s : State} (h : s.Inv) (hs : s.initialised = true) (hr : s.AtRest)
    (he : s.lp.enable = true) (size : U16) (timeout : U32) : (s.transmitStarted size timeout).Transmitting where
  steady := ⟨queueInv_of_nil rfl (show maskTx ∈ _ by decide), h.steady.params, h.steady.engine, h.steady.buffers⟩
  initialised := hs
  radio := rfl
  enable := he
  dir := rfl
  chunkCb := rfl
  txTimer := rfl
  rxTimer := hr.rxTimer

theorem LongPacket.txStart_progress {l : LongPacket} {size : U16} (h : size.toNat ≤ l.maxLen.toNat) :
    (l.txStart size).Progress (lenBytesOf l.lenW) where
  payload := Nat.le_refl _
  max := h
  total := toNat_ofNat_frameLength l size
  offset := by
    simp only [LongPacket.txStart, Nat.sub_self, Nat.add_zero]
    exact BitVec.zero_add _

theorem State.Inv.transmitLong {s : State} (h : s.Inv) (hs : s.initialised = true) (he : s.lp.enable = true) {size : U16}
    (hsize : size.toNat ≤ s.lp.maxLen.toNat) (timeout : U32) : (s.transmitLong size timeout).Inv := by
  have hle : firstLen s.fromIdle.lp size ≤ (s.fromIdle.transmitReady size).lp.remaining.toNat := firstLen_le _ _
  have hstart := h.fromIdle.transmitStarted (s.fromIdle_initialised.trans hs) h.fromIdle_atRest
    (s.fromIdle_enable.trans he) size timeout
  have hinv := hstart.inv_lpTxChunk (first := true) h.fromIdle_atRest.noTransfer.chunkTimer
    (LongPacket.txStart_progress (l := s.fromIdle.lp) (s.fromIdle_widths.2.2 ▸ hsize)) hle
  rw [State.lpTxChunk_of_le (s := s.fromIdle.transmitStarted size timeout) hle] at hinv
  rw [State.transmitLong_eq he, State.lpTxChunk_of_le hle]
  exact hinv

theorem State.Inv.sendRfw {s : State} (h : s.Inv) (hs : s.initialised = true) (he : s.lp.enable = true) {n : Byte}
    (hsize : n.toNat ≤ s.lp.maxLen.toNat) {d : List Byte} (hd : d.length = n.toNat) : (s.send n d).Inv := by
  obtain ⟨hidle, hno, -, hrx⟩ := h.fromIdle_atRest
  have hn : (n.setWidth 16).toNat = n.toNat := by simp; omega
  have hcleared := s.fromIdle_cleared
  obtain ⟨hlenW, hcrcW, hmaxLen⟩ := s.fromIdle_widths
  have hplain : (plainFrame s.lp (n.setWidth 16) d).length =
      lenBytesOf s.lp.lenW + (n.setWidth 16).toNat + crcBytesOf s.lp.crcW := by rw [plainFrame_length, hn, hd]
  have hrfw (len : U16) : State.RfwInv { s.fromIdle with mp := { s.mp with payloadLen := len } } :=
    ModemParams.SameShape.rfwInv (s := s) rfl hcleared (fun _ => rfl) h.steady.engine
  rw [State.send_rfw he]
  refine State.Transmitting.inv ⟨?steady, s.fromIdle_initialised.trans hs, rfl, s.fromIdle_enable.trans he, rfl,
    hno.chunkCb, rfl, hrx⟩ ?tx nofun ?_
  case steady =>
    exact ⟨queueInv_of_nil rfl (show maskTx ∈ _ by decide), h.steady.params, hrfw _,
      (congrArg _ s.fromIdle_rxStage).trans h.steady.buffers.1, State.useRadioBuffer_length _⟩
  case tx =>
    refine fun _ => ⟨nofun, nofun, fun _ => rfl, Nat.zero_le _, ?_, ?_, ?_⟩
    · exact hmaxLen ▸ hn ▸ hsize
    · simp only [hplain, hlenW, hcrcW]
      exact toNat_ofNat_frameLength s.lp (n.setWidth 16)
    · simp only [hplain, LongPacket.bytesSent, hlenW, hcrcW]
      rfl
  · simp [hno.chunkTimer]

/-! ## Receptions in RFW mode -/

/-- A reception of the engine with `TxTimer` off, but for its working registers. -/
structure State.Receiving (s : State) : Prop where
  steady : s.Steady
  initialised : s.initialised = true
  radio : s.radioState = .rxRunning
  enable : s.lp.enable = true
  dir : s.lp.dir = .rx
  chunkCb : s.lp.chunkCb = s.lp.longMode
  txTimer : s.txTimer.armed = false

/-- The invariant of a reception: a chunk is due exactly after the header. -/
theorem State.Receiving.inv {s : State} (h : s.Receiving) (hrx : s.lp.RxInv) (hphase : s.lp.phase ≠ .idle)
    (hchunk : s.chunkTimer.armed = true ↔ s.lp.phase = .streaming ∨ s.lp.phase = .lastChunk) : s.Inv := by
  refine ⟨h.steady.queue, h.steady.params, h.steady.engine, ?_, ?_, hrx, ?_, h.steady.buffers, ?_⟩
  · simp [State.SequenceInv, h.radio, h.enable, h.dir, h.chunkCb, hphase]
  · simp [LongPacket.TxInv, h.dir]
  · simp [State.TimerInv, h.radio, h.txTimer, h.dir, hchunk]
  · exact State.preInit_of_initialised h.initialised

theorem State.Inv.rfwRxStart {s : State} (h : s.Inv) (hs : s.initialised = true) (he : s.lp.enable = true)
    (long boosted : Bool) (timeout : U32) : (s.rfwRxStart long boosted timeout).Inv := by
  obtain ⟨hidle, hno, htx, -⟩ := h.fromIdle_atRest
  have hrfw (len : U16) : State.RfwInv { s with mp := { s.mp with payloadLen := len } } := h.steady.engine
  rw [State.rfwRxStart_eq he]
  refine State.Receiving.inv ⟨⟨queueInv_of_nil rfl (show maskRfwRx ∈ _ by decide), h.steady.params, hrfw _, ?_⟩,
    s.fromIdle_initialised.trans hs, rfl, he, rfl, rfl, htx⟩
    (fun _ => ⟨?_, nofun, nofun, fun hp => absurd rfl hp⟩) nofun ?_
  · exact ⟨(congrArg _ s.fromIdle_rxStage).trans h.steady.buffers.1, h.fromIdle_radioBuffer⟩
  · exact (show (0 : U16).toNat < radioBufSize by decide)
  · simp [hno.chunkTimer]

/-- The next receive chunk is scheduled with the invariant (R291). -/
theorem State.Receiving.inv_chunkScheduled {s : State} (h : s.Receiving) (hoff : s.lp.rxPayloadOffset.toNat < 255)
    (hprogress : s.lp.Progress 0) : s.chunkScheduled.Inv := by
  refine State.Receiving.inv
    ⟨⟨h.steady.queue, h.steady.params, h.steady.engine, h.steady.buffers⟩, h.initialised, h.radio, h.enable, h.dir,
      h.chunkCb, h.txTimer⟩
    (fun _ => ⟨hoff, ?_, ?_, fun _ => ⟨hprogress.payload, hprogress.max, hprogress.total, ?_⟩⟩) ?_ ?_
  · by_cases hmore : 128 < s.lp.remaining.toNat <;> simp [State.chunkScheduled, chunkLen, hmore]
  · by_cases hmore : 128 < s.lp.remaining.toNat <;> simp [State.chunkScheduled, chunkLen, hmore]
    exact Nat.not_lt.1 hmore
  · exact (BitVec.add_zero _).symm.trans hprogress.offset
  · simp only [State.chunkScheduled]; split <;> nofun
  · simp only [State.chunkScheduled]; split <;> simp

/-- A length in range is accepted with its registers in step (R290). -/
theorem State.Receiving.inv_header {s : State} (h : s.Receiving) (hoff : s.lp.rxPayloadOffset.toNat < 255)
    (white : BitVec 9) (crc : U16) (env : Environment) (os : List Output) {len : U16}
    (hlen : len.toNat ≤ s.lp.maxLen.toNat) :
    ((s.engineRan white crc env os).lengthAccepted len).chunkScheduled.Inv := by
  refine State.Receiving.inv_chunkScheduled
    ⟨⟨h.steady.queue, h.steady.params, h.steady.engine, h.steady.buffers⟩, h.initialised, h.radio, h.enable, h.dir,
      h.chunkCb, h.txTimer⟩ hoff ⟨Nat.le_refl _, hlen, toNat_ofNat_frameLength s.lp len, ?_⟩
  simp only [State.lengthAccepted, Nat.sub_self, Nat.add_zero]
  exact BitVec.add_zero _

theorem State.receiveEnded_inv {s : State} (h : s.Steady) (hinit : s.initialised = true) (htx : s.txTimer.armed = false)
    (b : Nat) (c : Callback) : (s.receiveEnded b c).Inv :=
  State.AtRest.inv ⟨rfl, ⟨rfl, rfl, rfl, rfl, rfl⟩, htx, rfl⟩ ⟨h.queue, h.params, h.engine, h.buffers⟩
    (State.preInit_of_initialised hinit)

theorem State.receiveDone_inv {s : State} (h : s.Steady) (hinit : s.initialised = true) (htx : s.txTimer.armed = false) :
    s.receiveDone.Inv :=
  State.AtRest.inv ⟨rfl, ⟨rfl, rfl, rfl, rfl, rfl⟩, htx, rfl⟩ ⟨h.queue, h.params, h.engine, h.buffers⟩
    (State.preInit_of_initialised hinit)

theorem State.transmitEnded_inv {s : State} (h : s.Steady) (hinit : s.initialised = true) (hrx : s.rxTimer.armed = false)
    (b : Nat) (c : Callback) : (s.transmitEnded b c).Inv :=
  State.AtRest.inv ⟨rfl, ⟨rfl, rfl, rfl, rfl, rfl⟩, rfl, hrx⟩ ⟨h.queue, h.params, h.engine, h.buffers⟩
    (State.preInit_of_initialised hinit)

/-- A chunk that fits keeps the size of the staging buffer (R50, R292). -/
theorem State.chunkStaged_rxStage_length {s : State} (hfit : s.lp.rxPayloadOffset.toNat + s.lp.chunkPayload < 255)
    (h : s.rxStage.length = radioBufSize) : s.chunkStaged.rxStage.length = radioBufSize := by
  have h : s.rxStage.length = 255 := h
  simp only [State.chunkStaged, List.length_append, List.length_take, List.length_drop, s.chunkBuffer_take_length, h,
    radioBufSize]
  omega

theorem State.chunkStaged_offset {s : State} (hfit : s.lp.rxPayloadOffset.toNat + s.lp.chunkPayload < 255) :
    s.chunkStaged.lp.rxPayloadOffset.toNat < 255 := by
  have hstored : (s.lp.rxPayloadOffset + BitVec.ofNat 16 s.lp.chunkPayload).toNat < 255 := by
    rw [BitVec.toNat_add, BitVec.toNat_ofNat]
    omega
  simp only [State.chunkStaged]
  split
  · decide
  · exact hstored

/-- A streamed receive chunk moves the working registers by its 128 bytes (R292). -/
theorem State.chunkStaged_progress {s : State} (h : s.lp.RxInv) (hdir : s.lp.dir = .rx)
    (hp : s.lp.phase = .streaming) : s.chunkStaged.lp.Progress 0 := by
  obtain ⟨-, hmore, -, hregs⟩ := h hdir
  obtain ⟨hpay, hmax, htotal, hoff⟩ := hregs (by rw [hp]; nofun)
  obtain ⟨hn, hbytes⟩ := LongPacket.chunkBytes_of_streaming hp
  have hmore : 128 < s.lp.remaining.toNat := hmore hp
  have hrem : s.chunkStaged.lp.remaining.toNat = s.lp.remaining.toNat - 128 :=
    (congrArg (fun n => (s.lp.remaining - BitVec.ofNat 16 n).toNat) hn).trans (toNat_sub_ofNat hmore.le)
  refine ⟨hrem ▸ (Nat.sub_le _ _).trans hpay, hmax, htotal, ?_⟩
  have hread : s.chunkStaged.lp.bufOffset + BitVec.ofNat 8 0 = s.lp.bufOffset + BitVec.ofNat 8 128 :=
    (BitVec.add_zero _).trans (congrArg (fun n => s.lp.bufOffset + BitVec.ofNat 8 n) hbytes)
  have hcount : lenBytesOf s.lp.lenW + (s.lp.payloadLen.toNat - (s.lp.remaining.toNat - 128)) =
      s.lp.bytesRead + 128 := by
    unfold LongPacket.bytesRead
    omega
  rw [hread, hrem, hoff, ← BitVec.ofNat_add]
  exact congrArg _ hcount.symm

/-- A receive chunk keeps the invariant: it ends the reception or schedules the next (R292). -/
theorem State.Receiving.inv_rxChunkExpiry {s : State} (h : s.Receiving) (hrx : s.lp.RxInv)
    (hp : s.lp.phase = .streaming ∨ s.lp.phase = .lastChunk) : s.rxChunkExpiry.Inv := by
  obtain ⟨⟨hq, hmp, hrfw, hstage, hbuf⟩, hinit, hradio, he, hdir, hcb, htx⟩ := h
  obtain hfit | hfull := Nat.lt_or_ge (s.lp.rxPayloadOffset.toNat + s.lp.chunkPayload) 255
  · have hsteady : s.chunkStaged.Steady := ⟨hq, hmp, hrfw, State.chunkStaged_rxStage_length hfit hstage, hbuf⟩
    rw [State.rxChunkExpiry_of_fit hfit]
    split
    case isTrue =>
      split
      · exact State.receiveDone_inv hsteady hinit htx
      · exact State.receiveEnded_inv hsteady hinit htx 4 .rxError
    case isFalse hlast =>
      exact State.Receiving.inv_chunkScheduled ⟨hsteady, hinit, hradio, he, hdir, hcb, htx⟩
        (State.chunkStaged_offset hfit) (State.chunkStaged_progress hrx hdir (hp.resolve_right hlast))
  · rw [State.rxChunkExpiry_of_full hfull]
    exact State.receiveEnded_inv (s := s.chunkRead) ⟨hq, hmp, hrfw, hstage, hbuf⟩ hinit htx 4 .rxError

/-! ## Events and expiries -/

theorem State.Inv.receiving {s : State} (h : s.Inv) (hr : s.radioState = .rxRunning) (hd : s.lp.dir = .rx) :
    s.Receiving := by
  obtain ⟨-, -, -, henable, -, hcb, -⟩ := h.sequence
  exact ⟨h.steady, h.initialised_of_running (by rw [hr]; nofun), hr, henable (by rw [hd]; nofun), hd, hcb,
    h.txTimer_off (by rw [hr]; nofun)⟩

theorem State.Inv.transmitting {s : State} (h : s.Inv) (hr : s.radioState = .txRunning) (hd : s.lp.dir = .tx) :
    s.Transmitting := by
  obtain ⟨-, -, -, henable, -, hcb, -⟩ := h.sequence
  exact ⟨h.steady, h.initialised_of_running (by rw [hr]; nofun), hr, henable (by rw [hd]; nofun), hd, hcb,
    h.timers.1.2 hr, h.rxTimer_off (by rw [hr]; nofun)⟩

/-- A streaming transmission has written the bytes its registers say. -/
theorem LongPacket.TxInv.progress {l : LongPacket} (h : l.TxInv) (hd : l.dir = .tx) (hp : l.phase = .streaming) :
    l.Progress 0 := by
  obtain ⟨-, -, -, hpay, hmax, htotal, hoff⟩ := h hd
  refine ⟨hpay, hmax, htotal, (BitVec.add_zero _).trans (hoff.trans ?_)⟩
  simp [LongPacket.bytesSent, hp]

/-- A chunk due is one of the transfer that runs. -/
theorem State.Inv.chunk_due {s : State} (h : s.Inv)
    (hdue : s.lp.phase = .streaming ∨ (s.lp.dir = .rx ∧ s.lp.phase = .lastChunk)) :
    (s.radioState = .txRunning ∧ s.lp.dir = .tx ∧ s.lp.phase = .streaming) ∨
      (s.radioState = .rxRunning ∧ s.lp.dir = .rx ∧ (s.lp.phase = .streaming ∨ s.lp.phase = .lastChunk)) := by
  obtain ⟨hidle, hdtx, hdrx, -⟩ := h.sequence
  obtain hp | ⟨hd, hp⟩ := hdue
  · cases hd : s.lp.dir with
    | none => simp [hidle.2 hd] at hp
    | tx => exact .inl ⟨hdtx hd, rfl, hp⟩
    | rx => exact .inr ⟨hdrx hd, rfl, .inl hp⟩
  · exact .inr ⟨hdrx hd, hd, .inr hp⟩

/-- A reception reported outside the engine goes on if it is continuous, and ends otherwise (R355). -/
theorem State.Inv.endRx {s : State} (h : s.Inv) (hr : s.radioState = .rxRunning) (hd : s.lp.dir = .none) :
    s.endRx.Inv := by
  have hinit := h.initialised_of_running (by rw [hr]; nofun)
  have htx := h.txTimer_off (by rw [hr]; nofun)
  obtain ⟨hq, hmp, hrfw, hbuf⟩ := h.steady
  obtain ⟨-, -, -, -, hengine, -⟩ := h.sequence
  have he : s.lp.enable = false := Bool.eq_false_iff.2 fun he => by
    have := hd.symm.trans (hengine hr he)
    cases this
  rw [State.endRx_eq]
  refine State.inv_of_noTransfer ⟨hq, hmp, hrfw, hbuf⟩ (h.noTransfer hd) ?_ nofun (fun _ => he)
    (State.preInit_of_initialised hinit)
  simp only [htx, hr]
  cases s.mp.rxContinuous <;> simp

theorem EventResult.inv {i : Instr} {s t : State} (h : EventResult s i t) (hs : s.Inv) : t.Inv := by
  obtain ⟨hq, hmp, hrfw, hseq, htx, hrx, ⟨htxt, hrxt, hchunkt⟩, hbuf, hpre⟩ := id hs
  have hinit (hr : s.radioState ≠ .idle) := hs.initialised_of_running hr
  cases h with
  | dropped => exact hs
  | badEvent b => exact hs
  | disarmedTx hr =>
    exact ⟨hq, hmp, hrfw, hseq, htx, hrx, ⟨⟨nofun, fun h => absurd h hr⟩, hrxt, hchunkt⟩, hbuf, hpre⟩
  | disarmedRx => exact ⟨hq, hmp, hrfw, hseq, htx, hrx, ⟨htxt, nofun, hchunkt⟩, hbuf, hpre⟩
  | disarmedChunk ht hr =>
    exact ⟨hq, hmp, hrfw, hseq, htx, hrx,
      ⟨htxt, hrxt, nofun, fun hdue => ((hs.chunk_due hdue).elim ht hr).elim⟩, hbuf, hpre⟩
  | transmitEnded b hr _ _ =>
    exact State.transmitEnded_inv hs.steady (hinit (by rw [hr]; nofun)) (hs.rxTimer_off (by rw [hr]; nofun)) b _
  | receiveTimedOut hr =>
    exact State.receiveEnded_inv hs.steady (hinit (by rw [hr]; nofun)) (hs.txTimer_off (by rw [hr]; nofun)) 3 _
  | receiveFailed hr hd =>
    rw [State.rxErrorPath_eq]
    exact State.AtRest.inv ⟨rfl, hs.noTransfer hd, hs.txTimer_off (by rw [hr]; nofun), rfl⟩ ⟨hq, hmp, hrfw, hbuf⟩
      (State.preInit_of_initialised (hinit (by rw [hr]; nofun)))
  | receiveReported hr hd =>
    rw [State.rxDonePath_eq]
    exact hs.endRx hr hd
  | cadEnded hr d =>
    rw [State.cadDonePath_eq]
    exact State.AtRest.inv ⟨rfl, hs.noTransfer (hs.dir_none (by rw [hr]; nofun) (by rw [hr]; nofun)),
      hs.txTimer_off (by rw [hr]; nofun), hs.rxTimer_off (by rw [hr]; nofun)⟩ ⟨hq, hmp, hrfw, hbuf⟩
      (State.preInit_of_initialised (hinit (by rw [hr]; nofun)))
  | header hr hd hp =>
    have hreceiving := hs.receiving hr hd
    obtain ⟨white, crc, env, os, -, ⟨b, c, -, h⟩ | ⟨len, hlen, h⟩⟩ := s.lpHeader_result
    · rw [h]
      exact State.receiveEnded_inv (s := s.engineRan white crc env os) ⟨hq, hmp, hrfw, hbuf⟩ hreceiving.initialised
        hreceiving.txTimer b c
    · rw [h]
      exact hreceiving.inv_header (hrx hd).1 white crc env os hlen
  | transmitChunk hr hd hp =>
    have hsending := hs.transmitting hr hd
    exact State.Transmitting.inv_lpTxChunk (s := s.tmrExpired .chunk) (first := false)
      ⟨⟨hq, hmp, hrfw, hbuf⟩, hsending.initialised, hr, hsending.enable, hd, hsending.chunkCb, hsending.txTimer,
        hsending.rxTimer⟩ rfl (htx.progress hd hp) (Nat.min_le_right _ _)
  | receiveChunk hr hd hp =>
    have hreceiving := hs.receiving hr hd
    exact State.Receiving.inv_rxChunkExpiry (s := s.tmrExpired .chunk)
      ⟨⟨hq, hmp, hrfw, hbuf⟩, hreceiving.initialised, hr, hreceiving.enable, hd, hreceiving.chunkCb, hreceiving.txTimer⟩
      hrx hp

/-! ## Commands -/

theorem State.Inv.setIrqQ_tail {s : State} (h : s.Inv) {e : IrqEvent} {q : List IrqEvent} (hq : s.irqQ = e :: q) :
    (s.setIrqQ q).Inv := by
  obtain ⟨⟨hlen, hmask, henabled⟩, hmp, hrfw, hseq, htx, hrx, htimer, hbuf, hpre⟩ := h
  rw [hq] at hlen henabled
  refine ⟨⟨Nat.le_of_succ_le hlen, hmask, fun e he => henabled e (.tail _ he)⟩, hmp, hrfw, hseq, htx, hrx, htimer, hbuf,
    fun hs => ?_⟩
  have hempty := (hpre hs).2.2.1
  rw [hq] at hempty
  cases hempty

theorem State.Inv.dispatchNext {s : State} (h : s.Inv) : s.dispatchNext.Inv := by
  cases hq : s.irqQ with
  | nil =>
    rw [State.dispatchNext_of_nil hq]
    exact h
  | cons e q =>
    rw [State.dispatchNext_of_cons hq]
    exact ((s.setIrqQ q).dispatchEvent_result e).inv (h.setIrqQ_tail hq)

theorem State.Inv.fields {s : State} (h : s.Inv) (hs : s.initialised = true) {m : ModemParams} (hm : m.SameShape s.mp)
    (hmax : s.lp.enable = true → m.maxPayloadLen = s.mp.maxPayloadLen) : State.Inv { s with mp := m } := by
  obtain ⟨hq, hmp, hrfw, hseq, htx, hrx, htimer, hbuf, -⟩ := h
  exact ⟨hq, hm.inv hmp, hm.rfwInv (s := s) rfl hmax hrfw, hseq, htx, hrx, htimer, hbuf,
    State.preInit_of_initialised (s := { s with mp := m }) hs⟩

theorem CommandBody.inv {i : Instr} {s u : State} (h : CommandBody s i u) (hs : s.Inv) (hinit : s.initialised = true)
    (hw : i.wellFormed = true) : u.Inv := by
  cases h with
  | fields m os _ hm hmax _ => exact hs.fields hinit hm hmax
  | abort os _ _ => exact hs.abortedWith hinit _
  | random => exact hs.random hinit _
  | configured _ h _ => exact hs.configured hinit h _ _
  | sense env h _ _ => exact hs.sensed hinit h _ env
  | @send n d h =>
    obtain ⟨-, hk, hmax⟩ := State.of_sendRefusal_none h
    cases he : s.lp.enable with
    | false => exact hs.sendHardware hinit he hk n d
    | true => exact hs.sendRfw hinit he (hmax he) (beq_iff_eq.1 hw)
  | receive boosted _ he => exact hs.rxStart hinit he boosted _
  | receiveRfw long boosted _ he => exact hs.rfwRxStart hinit he long boosted _
  | transmitLong h =>
    obtain ⟨-, he, -, hmax, -⟩ := (s.transmitLongAllowed_iff _ _).1 h
    exact hs.transmitLong hinit he hmax _
  | cad => exact hs.cad hinit _
  | wave => exact hs.wave hinit _ _ _
  | dispatch => exact hs.dispatchNext

theorem CommandResult.inv {i : Instr} {s t : State} (h : CommandResult i s t) (hs : s.Inv) (hw : i.wellFormed = true) :
    t.Inv := by
  cases h with
  | refused r => exact hs
  | answered k hq r => exact hs
  | done hinit h r => exact h.inv hs hinit hw

theorem exec_init_inv (m : Byte) {s t : State} (ht : exec (.init m) s = .next t) : t.Inv := by
  cases ht.symm.trans (exec_init_eq m s)
  exact State.inv_of_reset rfl rfl rfl rfl rfl rfl rfl rfl State.reset_rxStage_length State.reset_radioBuffer_length

/-! ## Steps -/

/-- What a raise queues is enabled by the mask (R27, R352). -/
theorem enabled_of_mem_priorityEvents {v mask : U16} {e : IrqEvent} (h : e ∈ priorityEvents (v &&& mask &&& 0x43FF)) :
    mask.getLsbD (eventBit e) = true := by
  have h := (List.mem_filter.1 h).2
  simp only [BitVec.getLsbD_and, Bool.and_eq_true] at h
  exact h.1.2

theorem State.Inv.raiseIrq {s : State} (h : s.Inv) (v : U16) : (s.raiseIrq v).Inv := by
  obtain ⟨⟨hlen, hmask, henabled⟩, hmp, hrfw, hseq, htx, hrx, htimer, hbuf, hpre⟩ := h
  rw [State.raiseIrq_eq hlen]
  have hlen : s.irqQ.length ≤ 4 := hlen
  refine ⟨⟨?_, hmask, fun e he => ?_⟩, hmp, hrfw, hseq, htx, hrx, htimer, hbuf, fun hs => ?_⟩
  · simp only [List.length_append, List.length_take, irqQDepth]
    omega
  · obtain he | he := List.mem_append.1 he
    · exact henabled e he
    · exact enabled_of_mem_priorityEvents (List.mem_of_mem_take he)
  · obtain ⟨hr, hm, hq, hvalid⟩ := hpre hs
    refine ⟨hr, hm, ?_, hvalid⟩
    have hnone : priorityEvents (v &&& s.irqMaskShadow &&& 0x43FF) = [] :=
      List.eq_nil_iff_forall_not_mem.2 fun e he => by
        have := enabled_of_mem_priorityEvents he
        simp [hm] at this
    simp only [hnone, hq]
    rfl

theorem State.Inv.stepInput {s t : State} {inp : Input} (h : s.Inv) (ht : s.stepInput inp = .next t) : t.Inv := by
  cases inp with
  | command p =>
    cases hdec : decodeCommand p with
    | ok i =>
      have ht : exec i s = .next t := State.stepInput_command hdec s ▸ ht
      by_cases hinit : ∃ m, i = .init m
      · obtain ⟨m, rfl⟩ := hinit
        exact exec_init_inv m ht
      · obtain ⟨u, hu, hresult⟩ :=
          exec_command_result (isCommand_of_decodeCommand hdec) (fun m h => hinit ⟨m, h⟩) s
        cases ht.symm.trans hu
        exact hresult.inv h (decodeCommand_eq_ok_iff.1 hdec).1
    | error err =>
      cases (State.stepInput_malformed hdec s).symm.trans ht
      exact h
  | irq v =>
    cases ht
    exact h.raiseIrq v
  | dispatch =>
    cases hq : s.irqQ with
    | nil =>
      cases (State.stepInput_dispatch_nil hq).symm.trans ht
      exact h
    | cons e q =>
      have ht := (State.stepInput_dispatch_cons hq).symm.trans ht
      cases (exec_instrOfEvent e (s.setIrqQ q)).symm.trans ht
      exact ((s.setIrqQ q).dispatchEvent_result e).inv (h.setIrqQ_tail hq)
  | timer l =>
    cases hdec : decodeTimer l with
    | ok i =>
      obtain ⟨u, hu, hresult⟩ := exec_event_result (isCommand_of_decodeTimer hdec) s
      cases (State.stepInput_timer hdec s ▸ ht).symm.trans hu
      exact hresult.inv h
    | error err =>
      cases (State.stepInput_badTimerLine hdec s).symm.trans ht
      exact h

/-- Settles O3. -/
theorem everyStepKeepsTheInvariant : Obligations.EveryStepKeepsTheInvariant := by
  intro s t hs ht
  obtain ⟨env, rfl | ⟨inp, h⟩⟩ := step_cases ht
  · exact hs
  · exact State.Inv.stepInput (s := { s with env := env }) hs h

end Sys2Proof.Machine
end

section
/-! A long transmission writes its whole frame to the ring (`43_long_packet.md` R277, R281 to R284): O56. The chunks of a
frame are runs of one stream, so what is still to be written is always the rest of it. -/

namespace Sys2Proof.Machine

/-! ## Bytes the environment answers -/

/-- Bytes as answers of the environment. -/
def answersOf (bs : List Byte) : List U32 := bs.map fun b => b.setWidth 32

theorem answersOf_append (a b : List Byte) : answersOf (a ++ b) = answersOf a ++ answersOf b := List.map_append

theorem State.nextBytes_of_answers {s : State} {bs : List Byte} {rest : List U32}
    (h : s.env.answers = answersOf bs ++ rest) : s.nextBytes bs.length = bs := by
  refine List.ext_getElem (s.nextBytes_length _) fun i hi hi' => ?_
  simp [State.nextBytes, State.answer, h, answersOf, List.getElem?_append_left, hi']

theorem State.skipAnswers_of_answers {s : State} {bs : List Byte} {rest : List U32}
    (h : s.env.answers = answersOf bs ++ rest) : (s.skipAnswers bs.length).env.answers = rest := by
  have hlen : (answersOf bs).length = bs.length := List.length_map _
  rw [State.skipAnswers, h, ← hlen]
  exact List.drop_left

/-! ## What outputs write to the ring -/

@[simp] theorem ringBytes_append (a b : List Output) : ringBytes (a ++ b) = ringBytes a ++ ringBytes b := by
  induction a with
  | nil => rfl
  | cons o os ih =>
    rw [List.cons_append]
    cases o with
    | ri op => cases op <;> simp [ringBytes, ih]
    | tmr op => exact ih
    | cb c => exact ih
    | response r => exact ih

@[simp] theorem ringBytes_ringWrite (offset : Byte) (bytes : List Byte) :
    ringBytes (ringWrite offset bytes) = bytes := by
  unfold ringWrite
  split
  · simp_all [ringBytes]
  · simp [ringBytes]

/-! ## The rest of a frame -/

/-- The bytes on the air of what is left of a frame: the plain bytes and the trailer, from the engine's registers. -/
def LongPacket.frameRest (l : LongPacket) (body : List Byte) : List Byte :=
  (whitened l l.whiteLfsr (body ++ trailerOf l (crcOver l l.crcLfsr body))).1

/-- The engine after its two units ran over plain bytes. -/
def LongPacket.ran (l : LongPacket) (body : List Byte) : LongPacket :=
  { l with whiteLfsr := (whitened l l.whiteLfsr body).2, crcLfsr := crcOver l l.crcLfsr body }

theorem frameBytes_eq_frameRest (l : LongPacket) (size : U16) (payload : List Byte) :
    frameBytes l size payload = l.seed.frameRest (lenBytes l.lenW size ++ payload) := rfl

/-- A run of the stream leaves the rest of it. -/
theorem LongPacket.frameRest_append (l : LongPacket) (a b : List Byte) :
    l.frameRest (a ++ b) = (whitened l l.whiteLfsr a).1 ++ (l.ran a).frameRest b := by
  rw [LongPacket.frameRest, crcOver_append, List.append_assoc, whitened_append]
  rfl

/-! ## One transmit chunk -/

/-- The payload that remains, in the answers to come. -/
structure State.Supplies (s : State) (p : List Byte) : Prop where
  remaining : s.lp.remaining.toNat = p.length
  answers : ∃ rest, s.env.answers = answersOf p ++ rest

theorem State.Supplies.nextBytes {s : State} {p : List Byte} (h : s.Supplies p) {n : Nat} (hn : n ≤ p.length) :
    s.nextBytes n = p.take n := by
  obtain ⟨rest, hrest⟩ := h.answers
  have hsplit : s.env.answers = answersOf (p.take n) ++ (answersOf (p.drop n) ++ rest) := by
    rw [← List.append_assoc, ← answersOf_append, List.take_append_drop, hrest]
  have hbytes := State.nextBytes_of_answers hsplit
  rwa [List.length_take, Nat.min_eq_left hn] at hbytes

theorem State.Supplies.skip {s : State} {p : List Byte} (h : s.Supplies p) {n : Nat} (hn : n ≤ p.length) :
    ∃ rest, (s.skipAnswers n).env.answers = answersOf (p.drop n) ++ rest := by
  obtain ⟨rest, hrest⟩ := h.answers
  have hsplit : s.env.answers = answersOf (p.take n) ++ (answersOf (p.drop n) ++ rest) := by
    rw [← List.append_assoc, ← answersOf_append, List.take_append_drop, hrest]
  have hbytes := State.skipAnswers_of_answers hsplit
  rw [List.length_take, Nat.min_eq_left hn] at hbytes
  exact ⟨rest, hbytes⟩

/-- A chunk writes its plain bytes whitened (R281). -/
theorem State.lpTxChunk_writes {s : State} {n : Nat} (hn : n ≤ s.lp.remaining.toNat) (first : Bool) :
    ∃ os, (s.lpTxChunk first n).trace = s.trace ++ os ∧ ringBytes os =
      (whitened s.lp s.lp.whiteLfsr (s.lp.chunkPlain first (decide (n = s.lp.remaining.toNat)) (s.nextBytes n))).1 := by
  have hcallback : ringBytes (if n = 0 then [] else [.cb (.getNextChunk (BitVec.ofNat 16 n))]) = [] := by split <;> rfl
  have htimer (last : Bool) (ms : U32) :
      ringBytes (if last = true then [] else [.tmr (.setValue .chunk ms), .tmr (.start .chunk)]) = [] := by
    split <;> rfl
  rw [State.lpTxChunk_of_le hn]
  refine ⟨_, (List.append_assoc _ _ _).trans (List.append_assoc _ _ _), ?_⟩
  simp only [ringBytes_append, hcallback, htimer, ringBytes_ringWrite, List.nil_append, List.append_nil]

/-- The last chunk writes the rest of the frame and leaves nothing. -/
theorem State.Supplies.lpTxChunk_last {s : State} {p : List Byte} (h : s.Supplies p) (first : Bool) :
    (∃ os, (s.lpTxChunk first p.length).trace = s.trace ++ os ∧
      ringBytes os = s.lp.frameRest (s.lp.chunkBody first p)) ∧
    (s.lpTxChunk first p.length).lp.phase = .lastChunk ∧ (s.lpTxChunk first p.length).lp.remaining = 0 := by
  have hle : p.length ≤ s.lp.remaining.toNat := h.remaining.ge
  have hlast : decide (p.length = s.lp.remaining.toNat) = true := decide_eq_true h.remaining.symm
  obtain ⟨os, htrace, hring⟩ := State.lpTxChunk_writes hle first
  rw [h.nextBytes (Nat.le_refl _), List.take_length, hlast] at hring
  refine ⟨⟨os, htrace, hring⟩, ?_⟩
  rw [State.lpTxChunk_of_le hle]
  exact ⟨if_pos hlast, (remaining_eq_zero_iff hle).2 h.remaining.symm⟩

/-- A chunk before the last writes a run of the frame and leaves the rest of it. -/
theorem State.Supplies.lpTxChunk_more {s : State} {p : List Byte} (h : s.Supplies p) {n : Nat} (hn : n < p.length)
    (first : Bool) :
    (∃ os, (s.lpTxChunk first n).trace = s.trace ++ os ∧
      ringBytes os ++ (s.lpTxChunk first n).lp.frameRest (p.drop n) = s.lp.frameRest (s.lp.chunkBody first p)) ∧
    (s.lpTxChunk first n).lp.phase = .streaming ∧ (s.lpTxChunk first n).chunkTimer.armed = true ∧
    (s.lpTxChunk first n).Supplies (p.drop n) := by
  have hle : n ≤ s.lp.remaining.toNat := h.remaining ▸ hn.le
  have hmore : decide (n = s.lp.remaining.toNat) = false := decide_eq_false (by rw [h.remaining]; exact hn.ne)
  obtain ⟨os, htrace, hring⟩ := State.lpTxChunk_writes hle first
  rw [h.nextBytes hn.le, hmore] at hring
  have hbody : s.lp.chunkBody first (p.take n) ++ p.drop n = s.lp.chunkBody first p := by
    rw [LongPacket.chunkBody, List.append_assoc, List.take_append_drop]
    rfl
  have hplain : s.lp.chunkPlain first false (p.take n) = s.lp.chunkBody first (p.take n) := List.append_nil _
  obtain ⟨rest, hrest⟩ := h.skip hn.le
  refine ⟨⟨os, htrace, ?_⟩, ?_⟩
  · rw [hring, ← hbody, LongPacket.frameRest_append, hplain, State.lpTxChunk_of_le hle, h.nextBytes hn.le, hmore]
    simp only [hplain]
    rfl
  · rw [State.lpTxChunk_of_le hle, hmore]
    refine ⟨rfl, rfl, ?_, rest, hrest⟩
    simp only [toNat_sub_ofNat hle, h.remaining, List.length_drop]

/-! ## The chunks of a transmission -/

theorem State.after_of_next {s t : State} {i : Instr} (h : exec i s = .next t) : s.after i = t := by
  rw [State.after, h]

/-- Expiries after the last chunk change nothing a transfer speaks of (R366). -/
theorem State.afterExpiries_of_lastChunk {s : State} (hd : s.lp.dir = .tx) (hp : s.lp.phase = .lastChunk) (k : Nat) :
    (s.afterExpiries k).trace = s.trace ∧ (s.afterExpiries k).lp = s.lp := by
  induction k generalizing s with
  | zero => exact ⟨rfl, rfl⟩
  | succ k ih =>
    rw [State.afterExpiries]
    cases harmed : s.chunkTimer.armed with
    | false =>
      rw [State.after_of_next (exec_expireChunkTimer_of_unarmed harmed)]
      exact ih hd hp
    | true =>
      rw [State.after_of_next (exec_expireChunkTimer_of_armed harmed),
        State.chunkTimerExpiry_of_other (by simp [hp]) (by simp [hd])]
      exact ih hd hp

/-- A long transmission with a payload still to be written. -/
structure State.Sends (s : State) (p : List Byte) : Prop where
  radio : s.radioState = .txRunning
  dir : s.lp.dir = .tx
  phase : s.lp.phase = .streaming
  chunkTimer : s.chunkTimer.armed = true
  supplies : s.Supplies p

/-- The expiries of a transmission write the rest of its frame (R282, R284). -/
theorem State.Sends.afterExpiries {s : State} {p : List Byte} (h : s.Sends p) (hp : p ≠ []) {k : Nat}
    (hk : p.length ≤ 128 * k) :
    (∃ os, (s.afterExpiries k).trace = s.trace ++ os ∧ ringBytes os = s.lp.frameRest p) ∧
      (s.afterExpiries k).lp.phase = .lastChunk ∧ (s.afterExpiries k).lp.remaining = 0 := by
  induction k generalizing s p with
  | zero => exact absurd (List.eq_nil_of_length_eq_zero (Nat.le_zero.1 hk)) hp
  | succ k ih =>
    have hstep : s.after .expireChunkTimer = (s.tmrExpired .chunk).lpTxChunk false (min 128 p.length) := by
      rw [State.after_of_next (exec_expireChunkTimer_of_transmit h.chunkTimer h.radio h.dir h.phase),
        State.txChunkExpiry_eq, State.tmrExpired_lp, h.supplies.remaining]
    have hsupplies : (s.tmrExpired .chunk).Supplies p := ⟨h.supplies.remaining, h.supplies.answers⟩
    have hkeeps : ((s.tmrExpired .chunk).lpTxChunk false (min 128 p.length)).radioState = .txRunning ∧
        ((s.tmrExpired .chunk).lpTxChunk false (min 128 p.length)).lp.dir = .tx := by
      rw [State.lpTxChunk_of_le (hsupplies.remaining ▸ Nat.min_le_right _ _)]
      exact ⟨h.radio, h.dir⟩
    rw [State.afterExpiries, hstep]
    obtain ⟨hradio, hdir⟩ := hkeeps
    obtain hlast | hmore := Nat.lt_or_ge 128 p.length
    · rw [Nat.min_eq_left hlast.le] at hradio hdir ⊢
      obtain ⟨⟨os, htrace, hring⟩, hphase, hchunk, hnext⟩ := hsupplies.lpTxChunk_more hlast false
      have hsends : ((s.tmrExpired .chunk).lpTxChunk false 128).Sends (p.drop 128) :=
        ⟨hradio, hdir, hphase, hchunk, hnext⟩
      obtain ⟨⟨os', htrace', hring'⟩, hend⟩ := ih hsends (by simpa using hlast) (by simp; omega)
      refine ⟨⟨os ++ os', by rw [htrace', htrace, List.append_assoc]; rfl, ?_⟩, hend⟩
      rw [ringBytes_append, hring', hring]
      rfl
    · rw [Nat.min_eq_right hmore] at hradio hdir ⊢
      obtain ⟨⟨os, htrace, hring⟩, hphase, hrem⟩ := hsupplies.lpTxChunk_last false
      obtain ⟨htrace', hlp⟩ := State.afterExpiries_of_lastChunk hdir hphase k
      rw [htrace', hlp]
      exact ⟨⟨os, htrace, hring⟩, hphase, hrem⟩

/-! ## The whole transmission -/

/-- An abort writes nothing to the ring and delivers nothing. -/
theorem State.fromIdle_trace (s : State) :
    ∃ os, s.fromIdle.trace = s.trace ++ os ∧ ringBytes os = [] ∧ storedBytes os = [] := by
  obtain h | h := s.fromIdle_cases <;> rw [h]
  · exact ⟨[], (List.append_nil _).symm, rfl, rfl⟩
  · exact ⟨_, rfl, rfl, rfl⟩

/-- The frame of a payload in the registers a transmission starts from. -/
theorem State.fromIdle_frameBytes (s : State) : frameBytes s.fromIdle.lp = frameBytes s.lp := by
  obtain h | h := s.fromIdle_cases <;> rw [h]
  rfl

/-- The first chunk of a transmission with its timer armed and the transmitter started. -/
def State.transmitBegun (s : State) (size : U16) (timeout : U32) (n : Nat) : State :=
  let u := (s.transmitReady size).lpTxChunk true n
  { u with
    radioState := .txRunning, txTimer := ⟨true, timeout⟩
    trace := u.trace ++ [.tmr (.setValue .tx timeout), .tmr (.start .tx), .ri (.setTx 0), .response statusOk] }

theorem exec_transmitLongPacket_begun {s : State} (hs : s.initialised = true) {size : U16} {timeout : U32}
    (h : s.transmitLongAllowed size true = true) :
    exec (.transmitLongPacket size timeout true) s =
      .next (s.fromIdle.transmitBegun size timeout (firstLen s.fromIdle.lp size)) := by
  obtain ⟨-, he, -⟩ := (s.transmitLongAllowed_iff size true).1 h
  rw [exec_transmitLongPacket_eq, if_pos hs, if_pos h, State.transmitLong_eq he]
  simp only [State.output, State.transmitBegun, List.append_assoc]
  rfl

/-- Only the chunk of a start writes to the ring. -/
theorem State.transmitBegun_trace {s : State} {size : U16} {timeout : U32} {n : Nat} {os : List Output}
    (h : ((s.transmitReady size).lpTxChunk true n).trace = (s.transmitReady size).trace ++ os) :
    ∃ os', (s.transmitBegun size timeout n).trace = s.trace ++ os' ∧ ringBytes os' = ringBytes os := by
  obtain ⟨pre, hpre, hquiet⟩ : ∃ pre, (s.transmitReady size).trace = s.trace ++ pre ∧ ringBytes pre = [] := ⟨_, rfl, rfl⟩
  let start : List Output := [.tmr (.setValue .tx timeout), .tmr (.start .tx), .ri (.setTx 0), .response statusOk]
  refine ⟨pre ++ os ++ start, ?_, ?_⟩
  · rw [State.transmitBegun, h, hpre, List.append_assoc s.trace, List.append_assoc]
  · rw [ringBytes_append, ringBytes_append, hquiet]
    exact List.append_nil _

/-- From its first chunk on a transmission writes the frame of its payload (R284). -/
theorem State.transmitBegun_frame {s : State} {size : U16} {payload : List Byte} (hsize : size.toNat = payload.length)
    {rest : List U32} (hanswers : s.env.answers = answersOf payload ++ rest) (timeout : U32) {n : Nat}
    (hn : n ≤ payload.length) {k : Nat} (hk : payload.length ≤ 128 * k) :
    (∃ os, ((s.transmitBegun size timeout n).afterExpiries k).trace = s.trace ++ os ∧
      ringBytes os = frameBytes s.lp size payload) ∧
    ((s.transmitBegun size timeout n).afterExpiries k).lp.phase = .lastChunk ∧
    ((s.transmitBegun size timeout n).afterExpiries k).lp.remaining = 0 := by
  have hsupplies : (s.transmitReady size).Supplies payload := ⟨hsize, rest, hanswers⟩
  have hframe : (s.transmitReady size).lp.frameRest ((s.transmitReady size).lp.chunkBody true payload) =
      frameBytes s.lp size payload := rfl
  have hdir : (s.transmitBegun size timeout n).lp.dir = .tx := by
    rw [State.transmitBegun, State.lpTxChunk_of_le (hsupplies.remaining ▸ hn)]
    rfl
  obtain rfl | hmore := Nat.eq_or_lt_of_le hn
  · obtain ⟨⟨os, htrace, hring⟩, hphase, hrem⟩ := hsupplies.lpTxChunk_last true
    obtain ⟨os', hstart, hring'⟩ := State.transmitBegun_trace (timeout := timeout) htrace
    obtain ⟨htrace', hlp⟩ := State.afterExpiries_of_lastChunk hdir hphase k
    rw [htrace', hlp]
    exact ⟨⟨os', hstart, hring'.trans (hring.trans hframe)⟩, hphase, hrem⟩
  · obtain ⟨⟨os, htrace, hring⟩, hphase, hchunk, hnext⟩ := hsupplies.lpTxChunk_more hmore true
    obtain ⟨os', hstart, hring'⟩ := State.transmitBegun_trace (timeout := timeout) htrace
    have hsends : (s.transmitBegun size timeout n).Sends (payload.drop n) :=
      ⟨rfl, hdir, hphase, hchunk, hnext.remaining, hnext.answers⟩
    obtain ⟨⟨os'', htrace'', hring''⟩, hend⟩ :=
      hsends.afterExpiries (by simpa using hmore) (k := k) (by simp; omega)
    refine ⟨⟨os' ++ os'', by rw [htrace'', hstart, List.append_assoc], ?_⟩, hend⟩
    rw [ringBytes_append, hring', hring'']
    exact hring.trans hframe

/-- Settles O56. -/
theorem aLongTransmitWritesTheWholeFrame : Obligations.ALongTransmitWritesTheWholeFrame := by
  intro s payload size timeout rest k hs hv he hsize hmax h1 h0 hanswers hk
  have hallowed : s.transmitLongAllowed size true = true :=
    (s.transmitLongAllowed_iff size true).2 ⟨hv, he, rfl, hsize ▸ hmax, fun h => hsize ▸ h1 h, h0⟩
  have hanswers : s.fromIdle.env.answers = answersOf payload ++ rest :=
    (congrArg Environment.answers s.fromIdle_env).trans hanswers
  obtain ⟨pre, hpre, hquiet, -⟩ := s.fromIdle_trace
  obtain ⟨⟨os, htrace, hring⟩, hend⟩ :=
    State.transmitBegun_frame hsize hanswers timeout (hsize ▸ firstLen_le s.fromIdle.lp size) hk
  refine ⟨_, pre ++ os, exec_transmitLongPacket_begun hs hallowed, ?_, ?_, hend⟩
  · rw [htrace, hpre, List.append_assoc]
  · rw [ringBytes_append, hquiet, hring, s.fromIdle_frameBytes]
    rfl

end Sys2Proof.Machine
end

section
/-! A reception of a payload's frame delivers the payload (`43_long_packet.md` R290 to R293, R297): O57. The header and the
chunks are runs of one stream read back, so what is still to be read is always the rest of the frame. -/

namespace Sys2Proof.Machine

/-! ## What outputs deliver -/

@[simp] theorem storedBytes_append (a b : List Output) : storedBytes (a ++ b) = storedBytes a ++ storedBytes b := by
  induction a with
  | nil => rfl
  | cons o os ih =>
    rw [List.cons_append]
    cases o with
    | ri op => exact ih
    | tmr op => exact ih
    | cb c => cases c <;> simp [storedBytes, ih]
    | response r => exact ih

/-- Operations deliver nothing. -/
theorem storedBytes_of_plain {os : List Output} (h : os.all Output.isPlain = true) : storedBytes os = [] := by
  induction os with
  | nil => rfl
  | cons o os ih =>
    rw [List.all_cons, Bool.and_eq_true] at h
    obtain ⟨ho, hos⟩ := h
    cases o with
    | ri op => exact ih hos
    | tmr op => exact ih hos
    | cb c => cases ho
    | response r => cases ho

/-! ## Reading a run of the stream back -/

/-- Plain bytes in the answers to come, whitened from the engine's register. -/
def State.Carries (s : State) (l : LongPacket) (x : List Byte) (tail : List U32) : Prop :=
  s.env.answers = answersOf (whitened l l.whiteLfsr x).1 ++ tail

theorem State.Carries.nextBytes {s : State} {l : LongPacket} {x : List Byte} {tail : List U32} (h : s.Carries l x tail) :
    whitened l l.whiteLfsr (s.nextBytes x.length) = (x, (l.ran x).whiteLfsr) := by
  have hbytes := State.nextBytes_of_answers h
  rw [whitened_length] at hbytes
  rw [hbytes]
  exact Prod.ext (whitened_whitened l _ x) (whitened_snd_congr l _ (whitened_length l _ x))

theorem State.Carries.skip {s : State} {l : LongPacket} {x : List Byte} {tail : List U32} (h : s.Carries l x tail) :
    (s.skipAnswers x.length).env.answers = tail := by
  have hrest := State.skipAnswers_of_answers h
  rwa [whitened_length] at hrest

/-- A receive chunk reads the run the answers carry (R292). -/
theorem State.Carries.chunkRead {s : State} {x : List Byte} {tail : List U32} (h : s.Carries s.lp x tail)
    (hx : s.lp.chunkBytes = x.length) :
    s.chunkBuffer = x ∧ s.chunkRead.env.answers = tail ∧ s.chunkRead.lp.whiteLfsr = (s.lp.ran x).whiteLfsr ∧
      s.chunkRead.lp.crcLfsr = crcOver s.lp s.lp.crcLfsr (x.take s.lp.chunkPayload) := by
  have hread := h.nextBytes
  refine ⟨?_, ?_, ?_, ?_⟩
  · rw [State.chunkBuffer, hx, hread]
  · rw [← h.skip, ← hx]; rfl
  · simp only [State.chunkRead, hx, hread]
  · simp only [State.chunkRead, hx, hread]

/-! ## Staging and delivery -/

/-- The staging buffer holds the chunk behind what it held (R292). -/
theorem State.chunkStaged_stage {s : State} {staged c : List Byte} (hoff : s.lp.rxPayloadOffset.toNat = staged.length)
    (hstage : s.rxStage.take staged.length = staged) (hc : s.chunkBuffer.take s.lp.chunkPayload = c) :
    s.chunkStaged.rxStage.take (staged.length + c.length) = staged ++ c := by
  simp only [State.chunkStaged, hoff, hstage, hc]
  exact List.take_left' List.length_append

theorem State.chunkStaged_stored {s : State} {staged c : List Byte} (hoff : s.lp.rxPayloadOffset.toNat = staged.length)
    (hc : s.chunkBuffer.take s.lp.chunkPayload = c) (hfit : staged.length + c.length < 255) :
    s.lp.chunkPayload = c.length ∧
      (s.lp.rxPayloadOffset + BitVec.ofNat 16 c.length).toNat = staged.length + c.length := by
  refine ⟨hc ▸ s.chunkBuffer_take_length.symm, ?_⟩
  rw [BitVec.toNat_add, BitVec.toNat_ofNat, hoff]
  omega

/-- In long mode the chunk is delivered and staging starts again; otherwise it gathers (R292). -/
theorem State.chunkStaged_delivers {s : State} {staged c : List Byte}
    (hoff : s.lp.rxPayloadOffset.toNat = staged.length) (hstage : s.rxStage.take staged.length = staged)
    (hc : s.chunkBuffer.take s.lp.chunkPayload = c) (hfit : staged.length + c.length < 255)
    (hcb : s.lp.chunkCb = s.lp.longMode) (hempty : s.lp.longMode = true → staged = []) :
    ∃ os, s.chunkStaged.trace = s.trace ++ os ∧ storedBytes os = if s.lp.longMode then c else [] := by
  obtain ⟨hn, hstored⟩ := State.chunkStaged_stored hoff hc hfit
  have htake := State.chunkStaged_stage hoff hstage hc
  have hread : storedBytes (if s.lp.chunkBytes = 0 then [] else
      [.ri (.readBuffer s.lp.bufOffset (BitVec.ofNat 8 s.lp.chunkBytes))]) = [] := by split <;> rfl
  have htrace : s.chunkStaged.trace = s.chunkRead.trace ++
      if decide (s.lp.longMode = true ∧ 0 < s.lp.chunkPayload) && s.lp.chunkCb then
        [.cb (.storeChunk
          (s.chunkStaged.rxStage.take (s.lp.rxPayloadOffset + BitVec.ofNat 16 s.lp.chunkPayload).toNat)
          (s.lp.rxPayloadOffset + BitVec.ofNat 16 s.lp.chunkPayload))]
      else [] := rfl
  refine ⟨_, htrace.trans (List.append_assoc _ _ _), ?_⟩
  rw [storedBytes_append, hread, List.nil_append, hn, hstored, htake, hcb]
  cases hlong : s.lp.longMode with
  | false => rfl
  | true =>
    rw [hempty hlong]
    cases c with
    | nil => rfl
    | cons b bs => exact List.append_nil _

theorem State.chunkStaged_offset_eq {s : State} {staged c : List Byte}
    (hoff : s.lp.rxPayloadOffset.toNat = staged.length) (hc : s.chunkBuffer.take s.lp.chunkPayload = c)
    (hfit : staged.length + c.length < 255) (hempty : s.lp.longMode = true → staged = []) :
    s.chunkStaged.lp.rxPayloadOffset.toNat = if s.lp.longMode then 0 else staged.length + c.length := by
  obtain ⟨hn, hstored⟩ := State.chunkStaged_stored hoff hc hfit
  simp only [State.chunkStaged, hn]
  cases hlong : s.lp.longMode with
  | false => simpa using hstored
  | true =>
    rw [hempty hlong] at hstored hoff
    cases c with
    | nil => simpa using hoff
    | cons b bs => simp

/-! ## The chunks of a reception -/

theorem State.chunkScheduled_phase (s : State) :
    s.chunkScheduled.lp.phase = if 128 < s.lp.remaining.toNat then .streaming else .lastChunk := by
  simp only [State.chunkScheduled, decide_eq_true_eq]

/-- What is left of a frame depends on the units and their registers alone. -/
theorem LongPacket.frameRest_congr {l m : LongPacket} (hon : l.whiteOn = m.whiteOn) (hw : l.crcW = m.crcW)
    (hpoly : l.crcPoly = m.crcPoly) (htype : l.crcType = m.crcType) (hwhite : l.whiteLfsr = m.whiteLfsr)
    (hcrc : l.crcLfsr = m.crcLfsr) : l.frameRest = m.frameRest := by
  funext body
  rw [LongPacket.frameRest, LongPacket.frameRest, whitened_congr hon, crcOver_congr hw hpoly, trailerOf_congr hw htype,
    hwhite, hcrc]

/-- A reception after its header: the payload staged and still to come, and the rest of the frame in the answers. -/
structure State.Awaits (s : State) (long : Bool) (staged p : List Byte) (tail : List U32) : Prop where
  radio : s.radioState = .rxRunning
  dir : s.lp.dir = .rx
  phase : s.lp.phase = if 128 < p.length then .streaming else .lastChunk
  remaining : s.lp.remaining.toNat = p.length
  longMode : s.lp.longMode = long
  chunkCb : s.lp.chunkCb = long
  cbMask : s.cbMask.getLsbD 2 = true
  offset : s.lp.rxPayloadOffset.toNat = staged.length
  stage : s.rxStage.take staged.length = staged
  answers : s.env.answers = answersOf (s.lp.frameRest p) ++ tail
  room : if long then staged = [] else
    staged.length + p.length < 255 ∧ s.lp.payloadLen.toNat = staged.length + p.length

theorem State.Awaits.empty {s : State} {long : Bool} {staged p : List Byte} {tail : List U32}
    (h : s.Awaits long staged p tail) (hlong : s.lp.longMode = true) : staged = [] := by
  have hroom := h.room
  rwa [← h.longMode, hlong] at hroom

/-- The chunk due next fits the staging buffer. -/
theorem State.Awaits.fit {s : State} {long : Bool} {staged p : List Byte} {tail : List U32}
    (h : s.Awaits long staged p tail) : staged.length + min 128 p.length < 255 := by
  have hroom := h.room
  cases long with
  | true =>
    have : staged = [] := hroom
    rw [this, List.length_nil]
    omega
  | false =>
    obtain ⟨hroom, -⟩ := hroom
    omega

/-- A streamed chunk is staged or delivered, and the rest of the frame is due (R291, R292). -/
theorem State.Awaits.streamed {s : State} {long : Bool} {staged p : List Byte} {tail : List U32}
    (h : s.Awaits long staged p tail) (hp : 128 < p.length) :
    (∃ os, s.rxChunkExpiry.trace = s.trace ++ os ∧ storedBytes os = if long then p.take 128 else []) ∧
      s.rxChunkExpiry.Awaits long (if long then [] else staged ++ p.take 128) (p.drop 128) tail ∧
      s.rxChunkExpiry.chunkTimer.armed = true ∧ s.rxChunkExpiry.lp.payloadLen = s.lp.payloadLen := by
  have hphase : s.lp.phase = .streaming := h.phase.trans (if_pos hp)
  obtain ⟨hpayload, hbytes⟩ := LongPacket.chunkBytes_of_streaming hphase
  have hlen : (p.take 128).length = 128 := by rw [List.length_take]; omega
  have hcarries : s.Carries s.lp (p.take 128) (answersOf ((s.lp.ran (p.take 128)).frameRest (p.drop 128)) ++ tail) := by
    rw [State.Carries, ← List.append_assoc, ← answersOf_append, ← LongPacket.frameRest_append, List.take_append_drop]
    exact h.answers
  obtain ⟨hbuffer, hanswers, hwhite, hcrc⟩ := hcarries.chunkRead (hbytes.trans hlen.symm)
  have hchunk : s.chunkBuffer.take s.lp.chunkPayload = p.take 128 := by
    rw [hbuffer, hpayload, List.take_take, Nat.min_self]
  have hcrc : s.chunkRead.lp.crcLfsr = (s.lp.ran (p.take 128)).crcLfsr := by
    rw [hcrc, hpayload, List.take_take, Nat.min_self]
    rfl
  have hfit : staged.length + (p.take 128).length < 255 := by rw [List.length_take]; exact h.fit
  have hexpiry : s.rxChunkExpiry = s.chunkStaged.chunkScheduled := by
    rw [State.rxChunkExpiry_of_fit (by rw [h.offset, hpayload, ← hlen]; exact hfit), if_neg (by rw [hphase]; nofun)]
  have hcb : s.lp.chunkCb = s.lp.longMode := h.chunkCb.trans h.longMode.symm
  have hremaining : s.chunkStaged.lp.remaining.toNat = (p.drop 128).length := by
    have hle : s.lp.chunkPayload ≤ s.lp.remaining.toNat := by rw [hpayload, h.remaining]; omega
    rw [List.length_drop, ← h.remaining, ← hpayload]
    exact toNat_sub_ofNat hle
  obtain ⟨os, htrace, hstored⟩ := State.chunkStaged_delivers h.offset h.stage hchunk hfit hcb h.empty
  have hoffset := State.chunkStaged_offset_eq h.offset hchunk hfit h.empty
  have hstage := State.chunkStaged_stage h.offset h.stage hchunk
  obtain ⟨timer, htimer, hplain⟩ := s.chunkStaged.chunkScheduled_trace
  rw [h.longMode] at hstored hoffset
  rw [hexpiry]
  refine ⟨⟨os ++ timer, by rw [htimer, htrace, List.append_assoc], ?_⟩, ?_, rfl, rfl⟩
  · rw [storedBytes_append, storedBytes_of_plain hplain, List.append_nil, hstored]
  have hrest : s.chunkStaged.chunkScheduled.lp.frameRest = (s.lp.ran (p.take 128)).frameRest :=
    LongPacket.frameRest_congr rfl rfl rfl rfl hwhite hcrc
  refine ⟨h.radio, h.dir, ?_, hremaining, h.longMode, h.chunkCb, h.cbMask, ?_, ?_, ?_, ?_⟩
  · rw [State.chunkScheduled_phase, hremaining]
  · refine hoffset.trans ?_
    cases long
    · exact List.length_append.symm
    · rfl
  · cases long
    · exact List.length_append ▸ hstage
    · rfl
  · rw [hrest]
    exact hanswers
  · have hroom := h.room
    cases long with
    | true => rfl
    | false =>
      obtain ⟨hsize, hpay⟩ := hroom
      have htotal : (staged ++ p.take 128).length + (p.drop 128).length = staged.length + p.length := by
        rw [List.length_append, Nat.add_assoc, ← List.length_append, List.take_append_drop]
      exact htotal ▸ ⟨hsize, hpay⟩

/-- The last chunk ends the packet with the payload delivered (R292, R293). -/
theorem State.Awaits.last {s : State} {long : Bool} {staged p : List Byte} {rssi snr kind : U32} {rest : List U32}
    (h : s.Awaits long staged p ([rssi, snr, kind] ++ rest)) (hp : ¬ 128 < p.length) :
    (∃ os, s.rxChunkExpiry.trace =
        s.trace ++ os ++ [.cb (.rxDone (if long then [] else staged ++ p) s.lp.payloadLen (rssi.setWidth 16)
          (snr.setWidth 8))] ∧ storedBytes os = if long then p else []) ∧
      s.rxChunkExpiry.radioState = .idle ∧ s.rxChunkExpiry.chunkTimer.armed = false := by
  have hphase : s.lp.phase = .lastChunk := h.phase.trans (if_neg hp)
  obtain ⟨hpayload, hbytes⟩ := LongPacket.chunkBytes_of_last hphase
  rw [h.remaining] at hpayload hbytes
  let trailer := trailerOf s.lp (crcOver s.lp s.lp.crcLfsr p)
  have hcarries : s.Carries s.lp (p ++ trailer) ([rssi, snr, kind] ++ rest) := h.answers
  obtain ⟨hbuffer, hanswers, -, -⟩ := hcarries.chunkRead (by rw [hbytes, List.length_append, trailerOf_length])
  have hchunk : s.chunkBuffer.take s.lp.chunkPayload = p := by rw [hbuffer, hpayload]; exact List.take_left
  have hok : s.chunkTrailerOk = true := by
    refine decide_eq_true ?_
    rw [hchunk, hbuffer, hpayload]
    exact List.drop_left
  have hfit : staged.length + p.length < 255 := Nat.min_eq_right (Nat.not_lt.1 hp) ▸ h.fit
  have hexpiry : s.rxChunkExpiry = s.chunkStaged.receiveDone := by
    rw [State.rxChunkExpiry_of_fit (by rw [h.offset, hpayload]; exact hfit), if_pos hphase, if_pos hok]
  have hcb : s.lp.chunkCb = s.lp.longMode := h.chunkCb.trans h.longMode.symm
  obtain ⟨os, htrace, hstored⟩ := State.chunkStaged_delivers h.offset h.stage hchunk hfit hcb h.empty
  have hstage := State.chunkStaged_stage h.offset h.stage hchunk
  rw [h.longMode] at hstored
  have hdelivered : (if s.chunkStaged.lp.longMode then [] else s.chunkStaged.rxStage.take s.chunkStaged.lp.payloadLen.toNat)
      = if long then [] else staged ++ p := by
    have hroom := h.room
    rw [show s.chunkStaged.lp.longMode = long from h.longMode]
    cases long with
    | true => rfl
    | false =>
      obtain ⟨-, hpay⟩ := hroom
      rw [show s.chunkStaged.lp.payloadLen = s.lp.payloadLen from rfl, hpay, hstage]
  have hanswers : s.chunkStaged.env.answers = [rssi, snr, kind] ++ rest := hanswers
  have hrssi : s.chunkStaged.answer 0 = rssi ∧ s.chunkStaged.answer 1 = snr := by simp [State.answer, hanswers]
  have hsupplied (c : Callback) : s.chunkStaged.supplied 2 c = [.cb c] := if_pos h.cbMask
  rw [hexpiry]
  refine ⟨⟨os ++ [.tmr (.stop .rx), .tmr (.stop .chunk), standbyOutput, .ri .getPacketStatus], ?_, ?_⟩, rfl, rfl⟩
  · simp only [State.receiveDone, htrace, hsupplied, hdelivered, hrssi.1, hrssi.2, List.append_assoc]
    rfl
  · rw [storedBytes_append, hstored]
    exact List.append_nil _

theorem State.afterExpiries_of_unarmed {s : State} (h : s.chunkTimer.armed = false) (k : Nat) : s.afterExpiries k = s := by
  induction k with
  | zero => rfl
  | succ k ih => rw [State.afterExpiries, State.after_of_next (exec_expireChunkTimer_of_unarmed h), ih]

/-- The expiries of a reception deliver the rest of its payload and end it (R293, R297). -/
theorem State.Awaits.afterExpiries {s : State} {long : Bool} {staged p : List Byte} {rssi snr kind : U32}
    {rest : List U32} (h : s.Awaits long staged p ([rssi, snr, kind] ++ rest)) (harmed : s.chunkTimer.armed = true)
    {k : Nat} (h0 : 0 < k) (hk : p.length ≤ 128 * k) :
    ∃ os, (s.afterExpiries k).trace =
        s.trace ++ os ++ [.cb (.rxDone (if long then [] else staged ++ p) s.lp.payloadLen (rssi.setWidth 16)
          (snr.setWidth 8))] ∧ storedBytes os = (if long then p else []) ∧ (s.afterExpiries k).radioState = .idle := by
  induction k generalizing s staged p with
  | zero => exact absurd h0 (Nat.lt_irrefl 0)
  | succ k ih =>
    have hdue : s.lp.phase = .streaming ∨ s.lp.phase = .lastChunk := by
      rw [h.phase]
      split
      · exact .inl rfl
      · exact .inr rfl
    have hv : (s.tmrExpired .chunk).Awaits long staged p ([rssi, snr, kind] ++ rest) :=
      ⟨h.radio, h.dir, h.phase, h.remaining, h.longMode, h.chunkCb, h.cbMask, h.offset, h.stage, h.answers, h.room⟩
    rw [State.afterExpiries, State.after_of_next (exec_expireChunkTimer_of_receive harmed h.radio h.dir hdue)]
    by_cases hp : 128 < p.length
    · obtain ⟨⟨os, htrace, hstored⟩, hnext, harmed', hpay⟩ := hv.streamed hp
      obtain ⟨os', htrace', hstored', hidle⟩ := ih hnext harmed' (by omega) (by rw [List.length_drop]; omega)
      refine ⟨os ++ os', ?_, ?_, hidle⟩
      · rw [htrace', htrace, hpay]
        cases long <;> simp
      · rw [storedBytes_append, hstored, hstored']
        cases long
        · rfl
        · exact List.take_append_drop 128 p
    · obtain ⟨⟨os, htrace, hstored⟩, hidle, hoff⟩ := hv.last hp
      rw [State.afterExpiries_of_unarmed hoff]
      exact ⟨os, htrace, hstored, hidle⟩

/-! ## The header of a reception -/

/-- A length field stands for the length it was written for (R277, R290). -/
theorem headerLen_lenBytes {w : LenWidth} (hw : w ≠ .w0) {size : U16} (hsize : w = .w1 → size.toNat ≤ 255) :
    headerLen (lenBytes w size) = size := by
  cases w with
  | w0 => exact absurd rfl hw
  | w1 =>
    have hsize := hsize rfl
    apply BitVec.eq_of_toNat_eq
    simp only [lenBytes, headerLen, BitVec.toNat_setWidth]
    omega
  | w2 => exact append_extractLsb'_u16 size

theorem LongPacket.ran_nil (l : LongPacket) : l.ran [] = l := by
  have hwhite : (whitened l l.whiteLfsr []).2 = l.whiteLfsr := by unfold whitened; split <;> rfl
  have hcrc : crcOver l l.crcLfsr [] = l.crcLfsr := by unfold crcOver; split <;> rfl
  rw [LongPacket.ran, hwhite, hcrc]

theorem State.lpAcceptLength_of_le {s : State} {len : U16} (h : len.toNat ≤ s.lp.maxLen.toNat) :
    s.lpAcceptLength len = (s.lengthAccepted len).chunkScheduled :=
  (s.lpAcceptLength_eq len).trans (if_neg (Nat.not_lt.2 h))

/-- The header of a frame is read, and its length accepted, with the rest of the frame to come (R290). -/
theorem State.lpHeader_of_frame {s : State} {size : U16} {payload : List Byte} {tail : List U32}
    (h1 : s.lp.lenW = .w1 → size.toNat ≤ 255) (h0 : s.lp.lenW = .w0 → size = s.lp.fixedLen)
    (h : s.env.answers =
      (if s.lp.lenW = .w0 then [] else [1]) ++ answersOf (frameBytes s.lp size payload) ++ tail) :
    ∃ env os, os.all Output.isPlain = true ∧
      env.answers = answersOf ((s.lp.seed.ran (lenBytes s.lp.lenW size)).frameRest payload) ++ tail ∧
      s.lpHeader = (s.engineRan (s.lp.seed.ran (lenBytes s.lp.lenW size)).whiteLfsr
        (s.lp.seed.ran (lenBytes s.lp.lenW size)).crcLfsr env os).lpAcceptLength size := by
  by_cases hw : s.lp.lenW = .w0
  · have hlen : lenBytesOf s.lp.lenW = 0 := by rw [hw]; rfl
    have hbytes : lenBytes s.lp.lenW size = [] := by rw [hw]; rfl
    rw [if_pos hw, frameBytes_eq_frameRest, hbytes] at h
    rw [hbytes, LongPacket.ran_nil]
    refine ⟨s.env, [], rfl, h, ?_⟩
    rw [State.lpHeader_of_noLength hlen, ← h0 hw, State.engineRan, List.append_nil]
    rfl
  · have hlen : lenBytesOf s.lp.lenW ≠ 0 := by cases hlenW : s.lp.lenW <;> simp_all [lenBytesOf]
    let w := lenBytesOf s.lp.lenW
    let poll : Output := .ri (.pollRxBytes (BitVec.ofNat 8 w) (lpHeaderWaitMs w s.lp.bitrate))
    let polled := (s.skipAnswers 1).output [poll]
    rw [if_neg hw, frameBytes_eq_frameRest, LongPacket.frameRest_append, answersOf_append, List.append_assoc,
      List.append_assoc] at h
    have hpoll : (s.answer 0).getLsbD 0 = true := by simp [State.answer, h]
    have hpolled : polled.env.answers = s.env.answers.drop 1 := rfl
    rw [h] at hpolled
    have hcarries : polled.Carries s.lp.seed (lenBytes s.lp.lenW size)
        (answersOf ((s.lp.seed.ran (lenBytes s.lp.lenW size)).frameRest payload) ++ tail) := hpolled
    have hread := hcarries.nextBytes
    have hskip := hcarries.skip
    rw [lenBytes_length] at hread hskip
    refine ⟨(polled.skipAnswers w).env, [poll, .ri (.readBuffer 0 (BitVec.ofNat 8 w))], rfl, hskip, ?_⟩
    have hheader : s.lp.seed.rxHeader (polled.nextBytes w) = (size, s.lp.seed.ran (lenBytes s.lp.lenW size)) := by
      rw [LongPacket.rxHeader, LongPacket.whiteRun_eq]
      simp only [hread, LongPacket.crcRun_eq, w]
      rw [headerLen_lenBytes hw h1]
      rfl
    rw [State.lpHeader_of_arrived hlen hpoll, State.riReadBuffer_eq, if_neg hlen]
    let read := ((polled.output [.ri (.readBuffer 0 (BitVec.ofNat 8 w))]).skipAnswers w)
    change (read.setLp (s.lp.seed.rxHeader (polled.nextBytes w)).2).lpAcceptLength
      (s.lp.seed.rxHeader (polled.nextBytes w)).1 = _
    rw [hheader]
    simp only [read, polled, State.output, State.setLp, State.skipAnswers, State.engineRan, List.append_assoc]
    rfl

/-! ## The whole reception -/

/-- A reception that waits for the header of a frame, and then gets its chunks, delivers the payload and ends (R297). -/
theorem State.receivesFrame {s : State} {long : Bool} {size : U16} {payload : List Byte} {rssi snr kind : U32}
    {rest : List U32} {k : Nat} (hr : s.radioState = .rxRunning) (hd : s.lp.dir = .rx)
    (hp : s.lp.phase = .headerPending) (hlong : s.lp.longMode = long) (hcb : s.lp.chunkCb = long)
    (hoff : s.lp.rxPayloadOffset = 0) (hmask : s.cbMask.getLsbD 2 = true) (hsize : size.toNat = payload.length)
    (hmax : size.toNat ≤ s.lp.maxLen.toNat) (h1 : s.lp.lenW = .w1 → size.toNat ≤ 255)
    (h0 : s.lp.lenW = .w0 → size = s.lp.fixedLen)
    (h : s.env.answers = (if s.lp.lenW = .w0 then [] else [1]) ++ answersOf (frameBytes s.lp size payload) ++
      ([rssi, snr, kind] ++ rest))
    (hroom : long = false → payload.length < 255) (hk0 : 0 < k) (hk : payload.length ≤ 128 * k) :
    ∃ os, ((s.after .irqSyncWordValid).afterExpiries k).trace =
        s.trace ++ os ++ [.cb (.rxDone (if long then [] else payload) size (rssi.setWidth 16) (snr.setWidth 8))] ∧
      storedBytes os = (if long then payload else []) ∧
      ((s.after .irqSyncWordValid).afterExpiries k).radioState = .idle := by
  obtain ⟨env, os, hplain, henv, hheader⟩ := State.lpHeader_of_frame h1 h0 h
  let u := s.engineRan (s.lp.seed.ran (lenBytes s.lp.lenW size)).whiteLfsr
    (s.lp.seed.ran (lenBytes s.lp.lenW size)).crcLfsr env os
  have hmaxu : size.toNat ≤ u.lp.maxLen.toNat := hmax
  rw [State.after_of_next (exec_irqSyncWordValid_of_pending hr hd hp), hheader, State.lpAcceptLength_of_le hmaxu]
  obtain ⟨timer, htimer, htimerPlain⟩ := (u.lengthAccepted size).chunkScheduled_trace
  have hphase : (u.lengthAccepted size).chunkScheduled.lp.phase =
      if 128 < payload.length then .streaming else .lastChunk := by
    rw [State.chunkScheduled_phase, ← hsize]
    rfl
  have hoffset : s.lp.rxPayloadOffset.toNat = 0 := by rw [hoff]; rfl
  have hawaits : (u.lengthAccepted size).chunkScheduled.Awaits long [] payload ([rssi, snr, kind] ++ rest) := by
    refine ⟨hr, hd, hphase, hsize, hlong, hcb, hmask, hoffset, rfl, henv, ?_⟩
    cases long with
    | true => rfl
    | false => exact ⟨by simpa using hroom rfl, hsize.trans (Nat.zero_add _).symm⟩
  obtain ⟨os', htrace, hstored, hidle⟩ := hawaits.afterExpiries rfl hk0 hk
  refine ⟨os ++ timer ++ os', ?_, ?_, hidle⟩
  · rw [htrace, htimer]
    simp only [List.append_assoc, List.nil_append]
    exact List.append_assoc _ _ _
  · rw [storedBytes_append, storedBytes_append, storedBytes_of_plain hplain, storedBytes_of_plain htimerPlain]
    exact hstored

/-- The start of a reception delivers nothing. -/
theorem State.rfwRxStart_trace {s : State} (he : s.lp.enable = true) (long boosted : Bool) (timeout : U32) :
    ∃ start, ((s.rfwRxStart long boosted timeout).output [.response statusOk]).trace = s.trace ++ start ∧
      storedBytes start = [] := by
  obtain ⟨pre, hpre, -, hnone⟩ := s.fromIdle_trace
  have hplain := storedBytes_of_plain (receiveOutputs_plain s.mp.antSel boosted timeout)
  let programmed : List Output := [.ri (.setDioIrqParams 0x0208),
    rfwPacket s.mp (BitVec.ofNat 16 (lenBytesOf s.lp.lenW + s.lp.maxLen.toNat + crcBytesOf s.lp.crcW))]
  refine ⟨pre ++ (programmed ++ (receiveOutputs s.mp.antSel boosted timeout ++ [.response statusOk])), ?_, ?_⟩
  · simp only [State.rfwRxStart_eq he, State.output, hpre, programmed, List.append_assoc]
  · rw [storedBytes_append, storedBytes_append, storedBytes_append, hnone, hplain]
    rfl

/-- A reception started in RFW mode delivers the payload of the frame on the air (R289, R297). -/
theorem State.rfwRxStart_receivesFrame {s : State} (he : s.lp.enable = true) (long boosted : Bool) (timeout : U32)
    {size : U16} {payload : List Byte} {rssi snr kind : U32} {rest : List U32} {k : Nat}
    (hmask : s.cbMask.getLsbD 2 = true) (hsize : size.toNat = payload.length)
    (hmax : size.toNat ≤ s.lp.maxLen.toNat) (h1 : s.lp.lenW = .w1 → size.toNat ≤ 255)
    (h0 : s.lp.lenW = .w0 → size = s.lp.fixedLen)
    (h : s.env.answers = (if s.lp.lenW = .w0 then [] else [1]) ++ answersOf (frameBytes s.lp size payload) ++
      ([rssi, snr, kind] ++ rest))
    (hroom : long = false → payload.length < 255) (hk0 : 0 < k) (hk : payload.length ≤ 128 * k) :
    let t := (s.rfwRxStart long boosted timeout).output [.response statusOk]
    ∃ os, storedBytes os = (if long then payload else []) ∧
      ((t.after .irqSyncWordValid).afterExpiries k).trace =
        s.trace ++ os ++ [.cb (.rxDone (if long then [] else payload) size (rssi.setWidth 16) (snr.setWidth 8))] ∧
      ((t.after .irqSyncWordValid).afterExpiries k).radioState = .idle := by
  intro t
  obtain ⟨start, hstart, hquiet⟩ := State.rfwRxStart_trace he long boosted timeout
  have hlp : t.lp = { s.lp.cleared with dir := .rx, phase := .headerPending, longMode := long, chunkCb := long } := by
    simp only [t, State.rfwRxStart_eq he, State.output]
  have hradio : t.radioState = .rxRunning := by simp only [t, State.rfwRxStart_eq he, State.output]
  have hcbMask : t.cbMask = s.cbMask := by simp only [t, State.rfwRxStart_eq he, State.output, s.fromIdle_cbMask]
  have henv : t.env = s.env := by simp only [t, State.rfwRxStart_eq he, State.output, s.fromIdle_env]
  have hanswers : t.env.answers = (if t.lp.lenW = .w0 then [] else [1]) ++ answersOf (frameBytes t.lp size payload) ++
      ([rssi, snr, kind] ++ rest) := by
    rw [henv, hlp]
    exact h
  obtain ⟨os, hos, hstored, hidle⟩ := State.receivesFrame (s := t) hradio (by rw [hlp]) (by rw [hlp]) (by rw [hlp])
    (by rw [hlp]) (by rw [hlp]; rfl) (hcbMask ▸ hmask) hsize (by rw [hlp]; exact hmax) (by rw [hlp]; exact h1)
    (by rw [hlp]; exact h0) hanswers hroom hk0 hk
  refine ⟨start ++ os, ?_, ?_, hidle⟩
  · rw [storedBytes_append, hquiet]
    exact hstored
  · rw [hos, show t.trace = s.trace ++ start from hstart, List.append_assoc s.trace]

/-- Settles O57: `ReceiveLongPacket` is the start in long mode, `Rx` the one outside it. -/
theorem aReceiveOfAFrameDeliversItsPayload : Obligations.AReceiveOfAFrameDeliversItsPayload := by
  intro s payload size timeout boosted rssi snr kind rest k hs hv he hmask hsize hmax h1 h0 hanswers hk0 hk finish
  have hanswers : s.env.answers = (if s.lp.lenW = .w0 then [] else [1]) ++ answersOf (frameBytes s.lp size payload) ++
      ([rssi, snr, kind] ++ rest) := by
    rw [← List.append_assoc]
    exact hanswers
  have hframe (long boosted : Bool) (hroom : long = false → payload.length < 255) :=
    State.rfwRxStart_receivesFrame he long boosted timeout hmask hsize (hsize ▸ hmax) (fun h => hsize ▸ h1 h) h0 hanswers
      hroom hk0 hk
  refine ⟨?_, fun hshort => ?_⟩
  · obtain ⟨os, hstored, htrace, hidle⟩ := hframe true boosted nofun
    refine ⟨_, os, ?_, hstored, htrace, hidle⟩
    rw [exec_receiveLongPacket_eq, if_pos hs, if_pos (by rw [hv, he]; rfl)]
  · obtain ⟨os, -, htrace, hidle⟩ := hframe false false fun _ => Nat.lt_succ_of_le hshort
    refine ⟨_, os, ?_, htrace, hidle⟩
    rw [exec_rx_eq, if_pos hs, if_pos hv, State.rxStart_rfw he]

end Sys2Proof.Machine
end
